-- ==== Sys2Proof/Word.lean ====
section
/-! DEFINITION. The words of the block: bytes, 16-bit words, the eleven-byte frame and the seven-byte payload
registers (spec/00_scope.md R8, R16). -/

namespace Sys2Proof

/-- A byte is 8 bits (R16). -/
abbrev Byte := BitVec 8

/-- A TagBuffer index, `TB_LEN`, a TLV length and the 16-bit host registers (R16). -/
abbrev Half := BitVec 16

/-- Eleven bytes, offsets 0 to 10: the command image or the response frame (R8 `FRAME_LEN`, R29, R61). -/
structure Frame where
  b0 : Byte
  b1 : Byte
  b2 : Byte
  b3 : Byte
  b4 : Byte
  b5 : Byte
  b6 : Byte
  b7 : Byte
  b8 : Byte
  b9 : Byte
  b10 : Byte
  deriving DecidableEq, Repr

/-- Seven bytes, offsets 0 to 6: `TAGID` or `PDATA` (R8 `PAYLOAD_MAX`, R30, R32). -/
structure Seven where
  b0 : Byte
  b1 : Byte
  b2 : Byte
  b3 : Byte
  b4 : Byte
  b5 : Byte
  b6 : Byte
  deriving DecidableEq, Repr

/-- Eleven zero bytes. -/
def Frame.zero : Frame := ⟨0, 0, 0, 0, 0, 0, 0, 0, 0, 0, 0⟩

/-- Seven zero bytes. -/
def Seven.zero : Seven := ⟨0, 0, 0, 0, 0, 0, 0⟩

/-- The bytes of a frame, offset 0 first (R66). -/
def Frame.toList (f : Frame) : List Byte :=
  [f.b0, f.b1, f.b2, f.b3, f.b4, f.b5, f.b6, f.b7, f.b8, f.b9, f.b10]

/-- The seven bytes, offset 0 first. -/
def Seven.toList (p : Seven) : List Byte :=
  [p.b0, p.b1, p.b2, p.b3, p.b4, p.b5, p.b6]

end Sys2Proof
end

