-- ==== Sys2Proof/Config.lean ====
section
/-! DEFINITION. The constants the spec fixes (spec/00_scope.md R8 to R12, R15) and the one source of free values.
The parameters the spec leaves open (`TAGBUF_CAP`, `DEV_ADDR`, `T_SETTLE_SEL`) are plain data in `State.par`. -/

namespace Sys2Proof.Config

/-- `PAYLOAD_MAX` (R8). -/
def payloadMax : Nat := 7
/-- `OVH_READ`, command and status (R8). -/
def ovhRead : Nat := 2
/-- `OVH_SELECT`, command, status and type byte (R8). -/
def ovhSelect : Nat := 3
/-- `OPC_SELECT` (R9). -/
def opcSelect : Byte := 0x01
/-- `OPC_READ` (R9). -/
def opcRead : Byte := 0x10
/-- `N_SEL_TRIES` (R10). -/
def nSelTries : Nat := 10
/-- `N_RD_TRIES` (R10). -/
def nRdTries : Nat := 12
/-- The default of the parameter `T_SETTLE_SEL`, in ms (R11, U6). -/
def tSettleSelDefault : Nat := 30
/-- `T_SETTLE_RD` in ms (R11). -/
def tSettleRd : Nat := 12
/-- `T_SEL_GAP` in ms (R11). -/
def tSelGap : Nat := 50
/-- `T_RD_GAP` in ms (R11). -/
def tRdGap : Nat := 0
/-- `FIRST_USER_PAGE` (R12). -/
def firstUserPage : Byte := 4
/-- `LAST_PAGE` (R12). -/
def lastPage : Byte := 255
/-- `TLV_NULL` (R15). -/
def tlvNull : Byte := 0x00
/-- `TLV_NDEF` (R15). -/
def tlvNdef : Byte := 0x03
/-- `TLV_TERM` (R15). -/
def tlvTerm : Byte := 0xFE
/-- `LEN_EXT`, the flag value of the extended length (R15). -/
def lenExt : Byte := 0xFF
/-- `TNF_WELL_KNOWN` (R15). -/
def tnfWellKnown : BitVec 3 := 1
/-- The Text record type code `'T'` (R15). -/
def textType : Byte := 0x54

/-- The free bytes of the machine, the spec's `draw` and `any value` (U1, U2, U3): the n-th draw. It has no body, so
nothing can be proved of any of its values; a claim about it holds for every choice (notes/assumptions/1.md). -/
opaque freeByte : Nat → BitVec 8

end Sys2Proof.Config
end

