-- ==== Sys2Proof/Syntax.lean ====
section
/-! DEFINITION. The instructions: one constructor per row of spec/opcode_table.json. The table's rows are of seven
formats (spec/30_encoding.md): host requests, bus commands, the response frame, TLV types, TLV lengths, NDEF record
headers and record classes; four more rows are assembler pseudo-operations with no encoding of their own (R113). -/

namespace Sys2Proof

/-- The header fields of an NDEF record that are neither `SR` nor `IL` (R104); those two are fixed by the row. -/
structure RecFlags where
  mb : Bool
  me : Bool
  cf : Bool
  tnf : BitVec 3
  deriving DecidableEq, Repr

/-- The formats a word of the table may be in. Which one the machine reads next is told by its state, never by the
word (spec/30_encoding.md, the three kinds A, B, C). -/
inductive Format where
  /-- `HOSTREQ`, `OP` then `ARG` (R90). -/
  | hostReq
  /-- `BUSCMD`, a command frame's bytes (R93, R94). -/
  | busCmd
  /-- `BUSRESP`, the eleven response bytes (R96). -/
  | busResp
  /-- `TLV`, the type byte (R102). -/
  | tlv
  /-- `TLVLEN`, the one- or three-byte length field (R101). -/
  | tlvLen
  /-- `NDEFREC`, a record's fixed part (R103). -/
  | ndefRec
  /-- The record class: header, type length, first type byte (R109). -/
  | recClass
  deriving DecidableEq, Repr

/-- One constructor per row of spec/opcode_table.json. -/
inductive Instr where
  /-- `SEL` (R133). -/
  | sel
  /-- `SELR` (R134). -/
  | selr
  /-- `RDP` (R135). -/
  | rdp (page : Byte)
  /-- `RDPR` (R136). -/
  | rdpr (page : Byte)
  /-- `RDT` (R160). -/
  | rdt
  /-- `RDTR` (R161). -/
  | rdtr
  /-- `DEC` (R175). -/
  | dec
  /-- `TBCLR` (R162). -/
  | tbclr
  /-- `TBAPP` (R163). -/
  | tbapp (byte : Byte)
  /-- `UNDEFINED_OP`: any of the 247 other codes (R92). -/
  | undefinedOp (op : Byte)
  /-- `SELECT_TAG`, the bus command `01 01` (R93). -/
  | selectTag
  /-- `READ_PAGE`, the bus command `02 10 page` (R94). -/
  | readPage (page : Byte)
  /-- `RESP`, the response frame (R96, R98). -/
  | resp (frame : Frame)
  /-- `TLV_NULL`, type `0x00` (R177). -/
  | tlvNull
  /-- `TLV_NDEF`, type `0x03` (R180). -/
  | tlvNdef
  /-- `TLV_TERMINATOR`, type `0xFE` (R181). -/
  | tlvTerminator
  /-- `TLV_OPAQUE`, any other type (R182). -/
  | tlvOpaque (type : Byte)
  /-- `LEN_SHORT`, a length of 0 to 254 (R178). -/
  | lenShort (len : Byte)
  /-- `LEN_EXT`, `FF` and a 16-bit length (R178). -/
  | lenExt (len : Half)
  /-- `REC_SR`: short record, no id length (R196). -/
  | recSr (flags : RecFlags) (typeLen payLen : Byte)
  /-- `REC_SR_IL`: short record with id length (R196). -/
  | recSrIl (flags : RecFlags) (typeLen payLen idLen : Byte)
  /-- `REC_LONG`: four-byte payload length, no id length (R196). -/
  | recLong (flags : RecFlags) (typeLen : Byte) (payLen : BitVec 32)
  /-- `REC_LONG_IL`: four-byte payload length with id length (R196). -/
  | recLongIl (flags : RecFlags) (typeLen : Byte) (payLen : BitVec 32) (idLen : Byte)
  /-- `REC_TEXT`: the record passed the classification test (R197, R198). -/
  | recText
  /-- `REC_OTHER`: the record failed it (R200). -/
  | recOther
  /-- `TBLOAD b0 ... bk`, a pseudo-operation (R113). -/
  | tbload (bytes : List Byte)
  /-- `READID`, a pseudo-operation (R113). -/
  | readid
  /-- `DUMP`, a pseudo-operation (R113). -/
  | dump
  /-- `READTEXT`, a pseudo-operation (R113). -/
  | readtext
  deriving DecidableEq, Repr

end Sys2Proof
end

