-- ==== Sys2Proof/WellFormed.lean ====
section
/-! DEFINITION. Which instruction terms are instructions: the operand ranges the encodings admit. -/

namespace Sys2Proof

/-- The nine operation codes that are defined (R91). -/
def definedOps : List Byte := [0x01, 0x81, 0x10, 0x90, 0x20, 0xA0, 0x30, 0x40, 0x41]

/-- The operands of `i` are ones its encoding admits: an undefined code is none of the nine (R92), an opaque type is
none of the three named types (R102), a short length is not the flag value (R101), `TBLOAD` names a byte (R113). -/
def Instr.wellFormed : Instr → Bool
  | .undefinedOp op => !definedOps.contains op
  | .tlvOpaque t => t != Config.tlvNull && t != Config.tlvNdef && t != Config.tlvTerm
  | .lenShort l => l != Config.lenExt
  | .tbload bs => !bs.isEmpty
  | .sel | .selr | .rdp _ | .rdpr _ | .rdt | .rdtr | .dec | .tbclr | .tbapp _ => true
  | .selectTag | .readPage _ | .resp _ => true
  | .tlvNull | .tlvNdef | .tlvTerminator | .lenExt _ => true
  | .recSr _ _ _ | .recSrIl _ _ _ _ | .recLong _ _ _ | .recLongIl _ _ _ _ => true
  | .recText | .recOther | .readid | .dump | .readtext => true

end Sys2Proof
end

