-- ==== Sys2Proof/Decode.lean ====
section
/-! DEFINITION. The decoder, one function per format, total on any bytes, and after it the encoder, both from
spec/30_encoding.md. Byte lists stand in ascending address or offset order. -/

namespace Sys2Proof

/-- Why bytes are no instruction of a format. -/
inductive DecodeError where
  /-- The bytes end before the element does; the decoder unit makes it `BufferExhaustion` (R80). -/
  | truncated
  /-- The bytes are neither of the two command frames (R95). -/
  | notACommand
  deriving DecidableEq, Repr

/-- What the decoder answers. -/
inductive Decoded where
  | ok (i : Instr)
  | refused (why : DecodeError)
  deriving DecidableEq, Repr

/-- `be16` (spec/00_scope.md section 4; R67): most significant byte first. -/
def be16 (b0 b1 : Byte) : Half := b0 ++ b1

/-- `be32` (spec/00_scope.md section 4; R67): most significant byte first. -/
def be32 (b0 b1 b2 b3 : Byte) : BitVec 32 := b0 ++ b1 ++ b2 ++ b3

/-- `MB ME CF .. .. TNF` of a header byte: bits 7, 6, 5 and 2 to 0 (R104). -/
def recFlagsOf (hdr : Byte) : RecFlags :=
  { mb := hdr.getLsbD 7, me := hdr.getLsbD 6, cf := hdr.getLsbD 5, tnf := hdr.extractLsb' 0 3 }

/-- `SR`, bit 4 of a header byte (R104). -/
def hdrSR (hdr : Byte) : Bool := hdr.getLsbD 4

/-- `IL`, bit 3 of a header byte (R104). -/
def hdrIL (hdr : Byte) : Bool := hdr.getLsbD 3

/-- `ME`, bit 6 of a header byte (R104). -/
def hdrME (hdr : Byte) : Bool := hdr.getLsbD 6

/-- `TNF`, bits 2 to 0 of a header byte (R104). -/
def hdrTNF (hdr : Byte) : BitVec 3 := hdr.extractLsb' 0 3

/-- The header byte of these flags with this `SR` and `IL` (R104). -/
def headerByte (f : RecFlags) (sr il : Bool) : Byte :=
  BitVec.ofBool f.mb ++ BitVec.ofBool f.me ++ BitVec.ofBool f.cf ++ BitVec.ofBool sr ++ BitVec.ofBool il ++ f.tnf

/-- A host request: the operation map of R91; every other code is the undefined operation (R92). -/
def decodeHostReq (op arg : Byte) : Instr :=
  if op = 0x01 then .sel
  else if op = 0x81 then .selr
  else if op = 0x10 then .rdp arg
  else if op = 0x90 then .rdpr arg
  else if op = 0x20 then .rdt
  else if op = 0xA0 then .rdtr
  else if op = 0x30 then .dec
  else if op = 0x40 then .tbclr
  else if op = 0x41 then .tbapp arg
  else .undefinedOp op

/-- A command frame: byte 0 counts the bytes behind it, byte 1 is the opcode (R93, R94, R95). -/
def decodeBusCmd : List Byte → Decoded
  | [] => .refused .truncated
  | b0 :: bs =>
    if b0 = 0x01 then
      match bs with
      | [] => .refused .truncated
      | b1 :: _ => if b1 = Config.opcSelect then .ok .selectTag else .refused .notACommand
    else if b0 = 0x02 then
      match bs with
      | b1 :: b2 :: _ => if b1 = Config.opcRead then .ok (.readPage b2) else .refused .notACommand
      | _ => .refused .truncated
    else .refused .notACommand

/-- A response frame: always eleven bytes (R96). -/
def decodeBusResp : List Byte → Decoded
  | b0 :: b1 :: b2 :: b3 :: b4 :: b5 :: b6 :: b7 :: b8 :: b9 :: b10 :: _ =>
    .ok (.resp ⟨b0, b1, b2, b3, b4, b5, b6, b7, b8, b9, b10⟩)
  | _ => .refused .truncated

/-- A TLV type byte: the type map of R102. -/
def decodeTlvType (t : Byte) : Instr :=
  if t = Config.tlvNull then .tlvNull
  else if t = Config.tlvNdef then .tlvNdef
  else if t = Config.tlvTerm then .tlvTerminator
  else .tlvOpaque t

/-- A TLV length field (R101). -/
def decodeTlvLen : List Byte → Decoded
  | [] => .refused .truncated
  | b :: bs =>
    if b = Config.lenExt then
      match bs with
      | h :: l :: _ => .ok (.lenExt (be16 h l))
      | _ => .refused .truncated
    else .ok (.lenShort b)

/-- A record's fixed part behind its header and type length: the four layouts of R107. -/
def decodeRecTail (f : RecFlags) (sr il : Bool) (tl : Byte) : List Byte → Decoded
  | p0 :: rest =>
    match sr, il with
    | true, false => .ok (.recSr f tl p0)
    | true, true =>
      match rest with
      | i :: _ => .ok (.recSrIl f tl p0 i)
      | [] => .refused .truncated
    | false, false =>
      match rest with
      | p1 :: p2 :: p3 :: _ => .ok (.recLong f tl (be32 p0 p1 p2 p3))
      | _ => .refused .truncated
    | false, true =>
      match rest with
      | p1 :: p2 :: p3 :: i :: _ => .ok (.recLongIl f tl (be32 p0 p1 p2 p3) i)
      | _ => .refused .truncated
  | [] => .refused .truncated

/-- A record's fixed part (R103, R105, R106). -/
def decodeNdefRec : List Byte → Decoded
  | hdr :: tl :: rest => decodeRecTail (recFlagsOf hdr) (hdrSR hdr) (hdrIL hdr) tl rest
  | _ => .refused .truncated

/-- The classification test on header, type length and the first type byte, in R197's order: the type byte is looked
at only for a well-known record with a one-byte type. -/
def decodeRecClass : List Byte → Decoded
  | hdr :: tl :: rest =>
    if hdrTNF hdr ≠ Config.tnfWellKnown then .ok .recOther
    else if tl ≠ 1 then .ok .recOther
    else
      match rest with
      | [] => .refused .truncated
      | t :: _ => if t = Config.textType then .ok .recText else .ok .recOther
  | _ => .refused .truncated

/-- The decoder: what the first element of the bytes is in a format. -/
def decode (f : Format) (bs : List Byte) : Decoded :=
  match f with
  | .hostReq =>
    match bs with
    | op :: arg :: _ => .ok (decodeHostReq op arg)
    | _ => .refused .truncated
  | .busCmd => decodeBusCmd bs
  | .busResp => decodeBusResp bs
  | .tlv =>
    match bs with
    | t :: _ => .ok (decodeTlvType t)
    | [] => .refused .truncated
  | .tlvLen => decodeTlvLen bs
  | .ndefRec => decodeNdefRec bs
  | .recClass => decodeRecClass bs

/-! ## The encoder -/

/-- The low, second, third and high byte of a 32-bit value, most significant first (R67). -/
def be32Bytes (v : BitVec 32) : List Byte :=
  [v.extractLsb' 24 8, v.extractLsb' 16 8, v.extractLsb' 8 8, v.extractLsb' 0 8]

/-- The two bytes of a 16-bit value, most significant first (R67). -/
def be16Bytes (v : Half) : List Byte := [v.extractLsb' 8 8, v.extractLsb' 0 8]

/-- The format an instruction is encoded in; none for a pseudo-operation (R113). -/
def Instr.format : Instr → Option Format
  | .sel | .selr | .rdp _ | .rdpr _ | .rdt | .rdtr | .dec | .tbclr | .tbapp _ | .undefinedOp _ => some .hostReq
  | .selectTag | .readPage _ => some .busCmd
  | .resp _ => some .busResp
  | .tlvNull | .tlvNdef | .tlvTerminator | .tlvOpaque _ => some .tlv
  | .lenShort _ | .lenExt _ => some .tlvLen
  | .recSr _ _ _ | .recSrIl _ _ _ _ | .recLong _ _ _ | .recLongIl _ _ _ _ => some .ndefRec
  | .recText | .recOther => some .recClass
  | .tbload _ | .readid | .dump | .readtext => none

/-- The request word `{OP, ARG}` as two bytes (R90). An operation without an operand has `ARG` written as 0 (R112). -/
def requestBytes (op arg : Byte) : List Byte := [op, arg]

/-- The expansion of a pseudo-operation as request words, first request first (R113). -/
def expansion : Instr → List (BitVec 16)
  | .tbload bs => 0x4000 :: bs.map (fun b => (0x41 : BitVec 8) ++ b)
  | .readid => [0x8100]
  | .dump => [0x8100, 0x2000]
  | .readtext => [0x8100, 0xA000, 0x3000]
  | .sel | .selr | .rdp _ | .rdpr _ | .rdt | .rdtr | .dec | .tbclr | .tbapp _ | .undefinedOp _ => []
  | .selectTag | .readPage _ | .resp _ => []
  | .tlvNull | .tlvNdef | .tlvTerminator | .tlvOpaque _ | .lenShort _ | .lenExt _ => []
  | .recSr _ _ _ | .recSrIl _ _ _ _ | .recLong _ _ _ | .recLongIl _ _ _ _ | .recText | .recOther => []

/-- The bytes of an instruction in its format; a pseudo-operation's bytes are those of its expansion (R113). The
record class of a Text record is written as header `TNF = 1`, type length 1, type `'T'` (R109); that of another record
as `TNF = 0` (R108). -/
def encode : Instr → List Byte
  | .sel => requestBytes 0x01 0
  | .selr => requestBytes 0x81 0
  | .rdp p => requestBytes 0x10 p
  | .rdpr p => requestBytes 0x90 p
  | .rdt => requestBytes 0x20 0
  | .rdtr => requestBytes 0xA0 0
  | .dec => requestBytes 0x30 0
  | .tbclr => requestBytes 0x40 0
  | .tbapp b => requestBytes 0x41 b
  | .undefinedOp op => requestBytes op 0
  | .selectTag => [0x01, Config.opcSelect]
  | .readPage p => [0x02, Config.opcRead, p]
  | .resp f => f.toList
  | .tlvNull => [Config.tlvNull]
  | .tlvNdef => [Config.tlvNdef]
  | .tlvTerminator => [Config.tlvTerm]
  | .tlvOpaque t => [t]
  | .lenShort l => [l]
  | .lenExt l => Config.lenExt :: be16Bytes l
  | .recSr f tl p => [headerByte f true false, tl, p]
  | .recSrIl f tl p i => [headerByte f true true, tl, p, i]
  | .recLong f tl p => headerByte f false false :: tl :: be32Bytes p
  | .recLongIl f tl p i => headerByte f false true :: tl :: (be32Bytes p ++ [i])
  | .recText => [0x01, 0x01, Config.textType]
  | .recOther => [0x00, 0x00]
  | .tbload bs => requestBytes 0x40 0 ++ bs.flatMap (requestBytes 0x41)
  | .readid => requestBytes 0x81 0
  | .dump => requestBytes 0x81 0 ++ requestBytes 0x20 0
  | .readtext => requestBytes 0x81 0 ++ requestBytes 0xA0 0 ++ requestBytes 0x30 0

/-! ## The table's words -/

/-- The `n` bytes of a number as spec/opcode_table.json writes its rows: the first byte is the most significant
(`READ_PAGE` is `0x0210pp` and its first byte is `02`). -/
def tableBytes : Nat → Nat → List Byte
  | 0, _ => []
  | n + 1, w => tableBytes n (w / 256) ++ [BitVec.ofNat 8 w]

/-- The format in which a word of the table is read where no machine state tells it (notes/assumptions/2.md): two
bytes are a host request, but `01 01` is the bus command `SELECT_TAG`; three bytes are `READ_PAGE` or `LEN_EXT`; one
byte is one of the three named TLV types or else a record header; eleven bytes are a response frame. -/
def tableFormat (nbits w : Nat) : Format :=
  if nbits = 16 then (if w = 0x0101 then .busCmd else .hostReq)
  else if nbits = 24 then (if w / 0x10000 = 0xFF then .tlvLen else .busCmd)
  else if nbits = 8 then (if w = 0x00 ∨ w = 0x03 ∨ w = 0xFE then .tlv else .ndefRec)
  else .busResp

/-- The bytes of a table word, padded with zero bytes to the longest element, eleven bytes. -/
def tableWordBytes (nbits w : Nat) : List Byte :=
  tableBytes (nbits / 8) w ++ List.replicate (11 - nbits / 8) 0

/-- The instruction the decoder reads from a table word. -/
def decodeTableWord (nbits w : Nat) : Option Instr :=
  match decode (tableFormat nbits w) (tableWordBytes nbits w) with
  | .ok i => some i
  | .refused _ => none

end Sys2Proof
end

