-- ==== Sys2Proof/Machine/State.lean ====
section
/-! DEFINITION. The state of the block (spec/10_state.md R20 to R43), the parameters it is built with (R13, R14, R11),
and the environment it meets: the host's accesses, the reader module's answers and the bus history (R40, R130). Plain
data throughout. -/

namespace Sys2Proof.Machine

/-- `RES`, the result class (R24). Value 7 is reserved and never written (U10), so the type does not hold it. -/
inductive Res where
  | none | ok | notPresent | noMorePages | found | notFound | refused
  deriving DecidableEq, Repr

/-- `CAUSE` (R25). Values 11 to 15 are reserved and never written (U10), so the type does not hold them. -/
inductive Cause where
  | none | busWrite | busRead | status | framing | cap | lastPage | endOfBuffer | terminator | truncated | illegalOp
  deriving DecidableEq, Repr

/-- `TST`, the state of the transactor (R39). -/
inductive Tst where
  | idle | build | write | settle | read | check | gap
  deriving DecidableEq, Repr

/-- `DST`, the state of the decoder unit (R39). -/
inductive Dst where
  | idle | readType | readLength | dispatch | record | done
  deriving DecidableEq, Repr

/-- The reader module's answer to a bus write (R40, R130). -/
inductive WriteAnswer where
  | ok | err
  deriving DecidableEq, Repr

/-- The reader module's answer to a bus read (R40, R130). -/
inductive ReadAnswer where
  | err
  | bytes (frame : Frame)
  deriving DecidableEq, Repr

/-- An event of the bus history (R130). An answer is an event of its own behind the primitive it answers. -/
inductive BusEvent where
  | busBegin
  | busSetAddr (addr : Nat)
  | busWrite (bytes : List Byte)
  | writeAnswer (a : WriteAnswer)
  | busDelay (ms : Nat)
  | busRead (count : Nat)
  | readAnswer (a : ReadAnswer)
  | busEnd
  deriving DecidableEq, Repr

/-- What the host does next, in the order it does it (R41, R112, R250; notes/assumptions/3.md). -/
inductive HostEvent where
  /-- A write of a host register (R41). -/
  | write (addr val : Byte)
  /-- A read of a host register (R41). -/
  | read (addr : Byte)
  /-- A line of a host program: wait for `BUSY = 0`, write `ARG` if the operation has an operand, write `OP` (R112). -/
  | request (word : BitVec 16)
  /-- `rst` driven to a level (R250). -/
  | rst (asserted : Bool)
  /-- The host does nothing while the running operation makes one move. -/
  | pause
  deriving DecidableEq, Repr

/-- The parameters the model takes as arguments (R11, R13, R14): data no step changes. -/
structure Params where
  /-- How far `TAGBUF_CAP` is above its least value 7; at most 65535 - 7 (R13). -/
  capAbove : Fin 65529
  /-- `DEV_ADDR`, a value the block never computes with (R14). -/
  devAddr : Nat
  /-- `T_SETTLE_SEL` in ms (R11, U6). -/
  tSettleSel : Nat
  deriving DecidableEq, Repr

/-- `TAGBUF_CAP`: between 7 and 65535 by its making (R13). -/
def Params.cap (p : Params) : Half := BitVec.ofNat 16 (Config.payloadMax + p.capAbove.val)

/-- The host-interface registers (R22 to R26, R33). `STATUS` is a view of the four flags (R26). -/
structure HostRegs where
  op : Byte
  arg : Byte
  busy : Bool
  done : Bool
  badtxt : Bool
  ovr : Bool
  res : Res
  cause : Cause
  tba : Half
  deriving DecidableEq, Repr

/-- The transactor: the frame buffer, its result registers and its sequencing state (R27 to R30, R32, R39). -/
structure Tpd where
  attempts : BitVec 4
  page : Byte
  xbuf : Frame
  tagid : Seven
  idlen : BitVec 3
  tagtype : Byte
  pdata : Seven
  plen : BitVec 3
  /-- `TRY` (R39). -/
  tryNo : BitVec 4
  tst : Tst
  /-- The page operand of the running operation: `ARG` as it was at acceptance (R42), or the page loop's `p` (R160). -/
  reqPage : Byte
  /-- The primitive in progress never returns (R261; notes/assumptions/8.md). Reset alone ends it (R252). -/
  stuck : Bool
  deriving DecidableEq, Repr

/-- The TagBuffer (R31): the bytes of `TB` that hold a value, and `TB_LEN`. -/
structure TagBuffer where
  cells : List Host.Cell
  len : Half
  deriving DecidableEq, Repr

/-- The decoder unit's registers (R34 to R39). -/
structure Ndd where
  ce : Half
  idx : Half
  tlvT : Byte
  tlvL : Half
  msgend : BitVec 17
  hdr : Byte
  typelen : Byte
  paylen : BitVec 32
  ridlen : Byte
  langlen : Byte
  body : Half
  txtOff : Half
  txtLen : Half
  dst : Dst
  /-- In `D_RECORD`: the fixed part of a record has been read and its classification is next (R195). -/
  inBody : Bool
  deriving DecidableEq, Repr

/-- The environment (R40): what the host does next, the module's answers in order, and what has been observed. -/
structure Env where
  /-- The level of the input `rst` (R250). -/
  rst : Bool
  /-- The host's coming accesses. -/
  script : List HostEvent
  /-- The module's coming answers to bus writes. -/
  writes : List WriteAnswer
  /-- The module's coming answers to bus reads. -/
  reads : List ReadAnswer
  /-- For the coming primitives that have no answer, in order, whether each returns; behind the list's end each does
  (R261; notes/assumptions/8.md). -/
  returns : List Bool
  /-- The bus history, oldest event first (R130). -/
  hist : List BusEvent
  /-- The host's register reads so far, address and value, oldest first. -/
  hostReads : List (Byte × Byte)
  /-- How many free bytes have been drawn (notes/assumptions/1.md). -/
  draws : Nat
  deriving DecidableEq, Repr

/-- The machine. -/
structure State where
  par : Params
  hif : HostRegs
  tpd : Tpd
  tb : TagBuffer
  ndd : Ndd
  env : Env
  deriving DecidableEq, Repr

/-- Why the machine stops. Neither reason is met in a state that a run from reset reaches. -/
inductive Fault where
  /-- A byte of the TagBuffer that holds no value was read (R31, U4): raised by a decoder fetch, by the language-length
  read and by a host read of `TBD` below `TB_LEN`. Safe: the model stops where the spec gives no value. -/
  | noValue (index : Nat)
  /-- Bytes in the command, response or request format do not decode: raised by step only, for a state whose fetched
  bytes are no frame. Safe: the model stops. -/
  | undecodable
  deriving DecidableEq, Repr

/-- Why an instruction has no meaning. -/
inductive Refusal where
  /-- The instruction of this mnemonic is not modelled: raised by exec's arm alone; no arm uses it. Safe. -/
  | notModelled (mnemonic : String)
  deriving DecidableEq, Repr

/-- The outcome of one instruction or step. -/
abbrev Outcome := Host.Outcome State Fault Refusal

/-- The machine right after reset (R43, R250): every register 0, the TagBuffer empty, both state machines idle. The
capacity is 7 + 2041 = 2048; the parameters' values are notes/assumptions/4.md; the environment has nothing in it. -/
def State.reset : State where
  par := { capAbove := 2041, devAddr := 0, tSettleSel := Config.tSettleSelDefault }
  hif := { op := 0, arg := 0, busy := false, done := false, badtxt := false, ovr := false,
           res := .none, cause := .none, tba := 0 }
  tpd := { attempts := 0, page := 0, xbuf := Frame.zero, tagid := Seven.zero, idlen := 0, tagtype := 0,
           pdata := Seven.zero, plen := 0, tryNo := 0, tst := .idle, reqPage := 0, stuck := false }
  tb := { cells := [], len := 0 }
  ndd := { ce := 0, idx := 0, tlvT := 0, tlvL := 0, msgend := 0, hdr := 0, typelen := 0, paylen := 0, ridlen := 0,
           langlen := 0, body := 0, txtOff := 0, txtLen := 0, dst := .idle, inBody := false }
  env := { rst := false, script := [], writes := [], reads := [], returns := [], hist := [], hostReads := [], draws := 0 }

end Sys2Proof.Machine
end

