-- ==== Sys2Proof/Machine/Flags.lean ====
section
/-! DEFINITION. Flag and code views: `STATUS` (R26), the numbers of `RES` and `CAUSE` (R24, R25), the header's flags
(R37, R104), the frame's validation (R98). -/

namespace Sys2Proof.Machine

/-- `STATUS`: bit 0 `BUSY`, bit 1 `DONE`, bit 2 `BADTXT`, bit 3 `OVR`, bits 7 to 4 zero (R26). -/
def HostRegs.status (h : HostRegs) : Byte :=
  (0 : BitVec 4) ++ BitVec.ofBool h.ovr ++ BitVec.ofBool h.badtxt ++ BitVec.ofBool h.done ++ BitVec.ofBool h.busy

/-- The output `done`, a copy of `STATUS.DONE` (R231). -/
def State.doneOut (s : State) : Bool := s.hif.done

/-- The number of a result class (R24). -/
def Res.code : Res → BitVec 3
  | .none => 0 | .ok => 1 | .notPresent => 2 | .noMorePages => 3 | .found => 4 | .notFound => 5 | .refused => 6

/-- The number of a cause (R25). -/
def Cause.code : Cause → BitVec 4
  | .none => 0 | .busWrite => 1 | .busRead => 2 | .status => 3 | .framing => 4 | .cap => 5 | .lastPage => 6
  | .endOfBuffer => 7 | .terminator => 8 | .truncated => 9 | .illegalOp => 10

/-- What the validation of a response frame finds (R98), the tests in R131's order: status, then length. -/
def frameCause (f : Frame) (ovh : Nat) : Cause :=
  if f.b2 ≠ 0 then .status else if f.b0.toNat ≤ ovh then .framing else .none

/-- The Text payload is shorter than its own language prefix: `1 + LANGLEN > PAYLEN` (R199). -/
def langOverrun (langlen : Byte) (paylen : BitVec 32) : Bool := decide (paylen.toNat < 1 + langlen.toNat)

end Sys2Proof.Machine
end

