-- ==== Sys2Proof/Machine/Operands.lean ====
section
/-! DEFINITION. Operand forms: the request word's fields (R90), the frame's bytes and payload (R29, R97), the decoder's
cursor reads (R80). -/

namespace Sys2Proof.Machine

/-! ## The request (R90) -/

/-- `FN = OP[6:0]` (R90). -/
def HostRegs.fn (h : HostRegs) : BitVec 7 := h.op.extractLsb' 0 7

/-- `R = OP[7]`, the retry bit (R90). -/
def HostRegs.retry (h : HostRegs) : Bool := h.op.getLsbD 7

/-- The running operation selects: `FN` is that of `SEL` and `SELR` (R91). -/
def State.selecting (s : State) : Bool := s.hif.fn == 0x01

/-- The running operation is the page loop: `FN` is that of `RDT` and `RDTR` (R91). -/
def State.looping (s : State) : Bool := s.hif.fn == 0x20

/-- The attempt's overhead `ovh` (R8, R131). -/
def State.ovh (s : State) : Nat := if s.selecting then Config.ovhSelect else Config.ovhRead

/-- The attempt's settle delay (R11, R131). -/
def State.settleMs (s : State) : Nat := if s.selecting then s.par.tSettleSel else Config.tSettleRd

/-- The gap between two attempts (R11, R134, R136). -/
def State.gapMs (s : State) : Nat := if s.selecting then Config.tSelGap else Config.tRdGap

/-- The bound on attempts of the retrying operations (R10). -/
def State.maxTries (s : State) : Nat := if s.selecting then Config.nSelTries else Config.nRdTries

/-- The operations that have an operand in `ARG` (R91). -/
def hasOperand (op : Byte) : Bool := op == 0x10 || op == 0x90 || op == 0x41

/-! ## Frames (R29, R97) -/

/-- The byte of a frame at an offset; offsets above 10 do not exist and read as the last one. -/
def frameByte (f : Frame) : Nat → Byte
  | 0 => f.b0 | 1 => f.b1 | 2 => f.b2 | 3 => f.b3 | 4 => f.b4 | 5 => f.b5
  | 6 => f.b6 | 7 => f.b7 | 8 => f.b8 | 9 => f.b9 | _ => f.b10

/-- The byte of `TAGID` or `PDATA` at an index; indices above 6 do not exist and read as the last one. -/
def sevenByte (p : Seven) : Nat → Byte
  | 0 => p.b0 | 1 => p.b1 | 2 => p.b2 | 3 => p.b3 | 4 => p.b4 | 5 => p.b5 | _ => p.b6

/-- The payload count `min(LEN - ovh, 7)` of a frame with `LEN > ovh` (R97). -/
def payloadCount (f : Frame) (ovh : Nat) : Nat := min (f.b0.toNat - ovh) Config.payloadMax

/-- The payload copied out: `XBUF[3+i]` for `i < n`, zero above (R30, R32). -/
def payloadBytes (f : Frame) (n : Nat) : Seven :=
  { b0 := if 0 < n then f.b3 else 0, b1 := if 1 < n then f.b4 else 0, b2 := if 2 < n then f.b5 else 0,
    b3 := if 3 < n then f.b6 else 0, b4 := if 4 < n then f.b7 else 0, b5 := if 5 < n then f.b8 else 0,
    b6 := if 6 < n then f.b9 else 0 }

/-- The command image of `SELECT_TAG` (R93). -/
def selectImage : Frame := { Frame.zero with b0 := 0x01, b1 := Config.opcSelect }

/-- The command image of `READ_PAGE` (R94). -/
def readImage (page : Byte) : Frame := { Frame.zero with b0 := 0x02, b1 := Config.opcRead, b2 := page }

/-- The bytes of an image that are sent: byte 0 and as many as it counts (R95). -/
def sentBytes (f : Frame) : List Byte := f.toList.take (f.b0.toNat + 1)

/-- The command the running operation sends next (R133 to R136, R160): the bytes of its command frame. -/
def State.commandBytes (s : State) : List Byte :=
  sentBytes (if s.selecting then selectImage else readImage s.tpd.reqPage)

/-- Eleven free bytes, the draws from the n-th on (R29, U1). -/
def drawFrame (n : Nat) : Frame :=
  { b0 := Config.freeByte n, b1 := Config.freeByte (n + 1), b2 := Config.freeByte (n + 2),
    b3 := Config.freeByte (n + 3), b4 := Config.freeByte (n + 4), b5 := Config.freeByte (n + 5),
    b6 := Config.freeByte (n + 6), b7 := Config.freeByte (n + 7), b8 := Config.freeByte (n + 8),
    b9 := Config.freeByte (n + 9), b10 := Config.freeByte (n + 10) }

/-! ## The TagBuffer's bytes (R31) -/

/-- The byte a memory holds at an index; an index not listed holds no value (R31, U4; notes/assumptions/5.md). -/
def Memory.read (cells : List Host.Cell) (a : Nat) : Option Byte :=
  match cells with
  | [] => none
  | (k, v) :: rest => if k = a then some v else Memory.read rest a

/-- The bytes at `a .. a+n-1`; none if one of them holds no value. -/
def Memory.readRange (cells : List Host.Cell) (a : Nat) : Nat → Option (List Byte)
  | 0 => some []
  | n + 1 =>
    match Memory.read cells a, Memory.readRange cells (a + 1) n with
    | some b, some bs => some (b :: bs)
    | _, _ => none

/-- The big-endian number of a byte list (R67). -/
def beNat : List Byte → Nat
  | bs => bs.foldl (fun acc b => acc * 256 + b.toNat) 0

/-- `MemRead(addr, n)` (R80): the big-endian value of `n` bytes; none if one of them holds no value. -/
def memRead (s : State) (a n : Nat) : Option Nat := (Memory.readRange s.tb.cells a n).map beNat

/-- What a checked cursor read answers (R80). -/
inductive Taken where
  /-- The value, and the state with the cursor behind the field. -/
  | ok (v : Nat) (s : State)
  /-- The field does not fit before `CE`: the cursor stands at `CE` (`BufferExhaustion`). -/
  | exhausted (s : State)
  /-- A byte below `CE` holds no value. -/
  | noValue
  deriving DecidableEq, Repr

/-- The state with the cursor at a natural number (it fits: every caller's target is at most `CE`). -/
def State.setIdx (s : State) (n : Nat) : State := { s with ndd.idx := BitVec.ofNat 16 n }

/-- `Take(n)` (R80). -/
def State.take (s : State) (n : Nat) : Taken :=
  if s.ndd.ce.toNat < s.ndd.idx.toNat + n then .exhausted (s.setIdx s.ndd.ce.toNat)
  else
    match memRead s s.ndd.idx.toNat n with
    | some v => .ok v (s.setIdx (s.ndd.idx.toNat + n))
    | none => .noValue

/-- `Skip(target)` (R80): silent when the clamp cuts it (R81). -/
def State.skip (s : State) (target : Nat) : State := s.setIdx (min target s.ndd.ce.toNat)

/-- The bytes at the cursor, at most `n` of them and none at or beyond `CE` (R80); none if one holds no value. -/
def State.window (s : State) (n : Nat) : Option (List Byte) :=
  Memory.readRange s.tb.cells s.ndd.idx.toNat (min n (s.ndd.ce.toNat - s.ndd.idx.toNat))

end Sys2Proof.Machine
end

