-- ==== Sys2Proof/Machine/Ops.lean ====
section
/-! DEFINITION. The named operations over the TagBuffer and the registers that every meaning is built from. -/

namespace Sys2Proof.Machine

/-! ## The TagBuffer's memory (R31, R62) -/

/-- The cells with the byte at `a` set to `v`; addresses stay strictly rising. -/
def Memory.write (cells : List Host.Cell) (a : Nat) (v : Byte) : List Host.Cell :=
  match cells with
  | [] => [(a, v)]
  | (k, w) :: rest =>
    if a < k then (a, v) :: (k, w) :: rest
    else if a = k then (a, v) :: rest
    else (k, w) :: Memory.write rest a v

/-- The canonical form: addresses strictly rising. An index not listed holds no value, so no entry can equal what an
unlisted index reads as. -/
abbrev Memory.wf (cells : List Host.Cell) : Prop := (cells.map Prod.fst).Pairwise (· < ·)

/-- The append of one byte at `TB_LEN` (R62, R160, R163). -/
def State.tbPush (s : State) (b : Byte) : State :=
  { s with tb := { cells := Memory.write s.tb.cells s.tb.len.toNat b, len := s.tb.len + 1 } }

/-- The append of a payload, first byte first (R160). -/
def State.tbAppend (s : State) (bs : List Byte) : State := bs.foldl State.tbPush s

/-- The emptied TagBuffer: its bytes lose their values (R31, R162). -/
def State.tbClear (s : State) : State := { s with tb := { cells := [], len := 0 } }

/-! ## The bus history (R130) -/

/-- Events recorded at the end of the bus history. -/
def State.record (s : State) (es : List BusEvent) : State := { s with env.hist := s.env.hist ++ es }

/-- Goes on unless the primitive in progress never returns (R261). -/
def State.unlessStuck (s : State) (k : State → State) : State := if s.tpd.stuck then s else k s

/-- A primitive that has no answer is issued (R130): its event is recorded, and it returns or never does (R261). -/
def State.issue (s : State) (e : BusEvent) : State :=
  { (s.record [e]) with env.returns := s.env.returns.tail, tpd.stuck := s.env.returns.head? == some false }

/-- A primitive that has no answer, and what follows its return (R130, R261). -/
def State.perform (s : State) (e : BusEvent) (k : State → State) : State := (s.issue e).unlessStuck k

/-! ## Acceptance and completion (R90, R133 `complete`, R229, R233) -/

/-- Acceptance of the operation of code `op` (R23, R90): `OP` reads back the code, `BUSY` is set, `DONE` cleared. -/
def State.accept (s : State) (op : Byte) : State :=
  { s with hif.op := op, hif.busy := true, hif.done := false }

/-- A write to `OP` while `BUSY = 1` (R229): only `OVR` is set. -/
def State.overrun (s : State) : State := { s with hif.ovr := true }

/-- `RES` and `CAUSE` (R24, R25). -/
def State.setResult (s : State) (r : Res) (c : Cause) : State := { s with hif.res := r, hif.cause := c }

/-- `complete` (R133, R233): `BUSY` cleared, `DONE` set, both state machines idle. -/
def State.complete (s : State) : State :=
  { s with hif.busy := false, hif.done := true, tpd.tst := .idle, ndd.dst := .idle }

/-- THE SHARED END OF AN OPERATION BY A CONDITION (R220, R233): result class and cause, then completion. There is no
return address, mode or vector, and so no return from it (R233, R235). -/
def State.endWith (s : State) (r : Res) (c : Cause) : State := (s.setResult r c).complete

/-- An operation begins if the block is idle; else the write overruns (R90, R229, R232). -/
def State.request (s : State) (op : Byte) (start : State → State) : Outcome :=
  if s.hif.busy then .next s.overrun else .next (start (s.accept op))

/-! ## The transactor's sequence (R131 to R136, R160) -/

/-- The transactor at the start of the attempts of a select or of the read of a page: `ATTEMPTS <- 0`, the first try,
the frame to be built (R133 to R136, R160). `TRY` counts only in the retrying operations (R39). -/
def State.beginTries (s : State) (page : Byte) : State :=
  { s with tpd.attempts := 0, tpd.tryNo := if s.hif.retry then 1 else s.tpd.tryNo, tpd.reqPage := page,
           tpd.tst := .build }

/-- The page loop before the read of page `p`: the capacity test, then the read (R160). -/
def State.beginPage (s : State) (p : Byte) : State :=
  if s.par.cap.toNat < s.tb.len.toNat + Config.payloadMax then s.endWith .ok .cap
  else s.beginTries p

/-- The page loop behind a successful read: append the payload, stop after the last page, go on (R160). -/
def State.loopAppend (s : State) : State :=
  let t := s.tbAppend (s.tpd.pdata.toList.take s.tpd.plen.toNat)
  if s.tpd.reqPage = Config.lastPage then t.endWith .ok .lastPage
  else t.beginPage (s.tpd.reqPage + 1)

/-- What follows a successful attempt: the loop goes on, any other operation completes (R133 to R136, R160). -/
def State.afterSuccess (s : State) : State := if s.looping then s.loopAppend else s.complete

/-- What follows a failed attempt: a retrying operation with attempts left waits and tries again; else the page loop
completes with `R_OK` and keeps the cause, any other operation completes (R134, R136, R160, R161). -/
def State.afterFailure (s : State) : State :=
  if s.hif.retry ∧ s.tpd.tryNo.toNat < s.maxTries then { s with tpd.tst := .gap }
  else if s.looping then { s with hif.res := .ok }.complete
  else s.complete

/-- The result registers of a failed attempt: `SelectFail` and `ReadFail` (R133, R135). -/
def State.failResults (s : State) (c : Cause) : State :=
  if s.selecting then
    { s with tpd.tagid := Seven.zero, tpd.idlen := 0, tpd.tagtype := 0, hif.res := .notPresent, hif.cause := c }
  else
    { s with tpd.pdata := Seven.zero, tpd.plen := 0, hif.res := .noMorePages, hif.cause := c }

/-- The result registers of a successful attempt with `n` payload bytes: `SelectOnce` and `ReadOnce` (R30, R32). -/
def State.okResults (s : State) (f : Frame) (n : Nat) : State :=
  if s.selecting then
    { s with tpd.tagid := payloadBytes f n, tpd.idlen := BitVec.ofNat 3 n, tpd.tagtype := frameByte f (3 + n),
             hif.res := .ok, hif.cause := .none }
  else
    { s with tpd.pdata := payloadBytes f n, tpd.plen := BitVec.ofNat 3 n, hif.res := .ok, hif.cause := .none }

/-- THE SHARED RAISING OF A CONDITION OF AN ATTEMPT (R132, R221 to R224). -/
def State.raiseAttempt (s : State) (c : Cause) : State := (s.failResults c).afterFailure

/-- The command of an attempt (R131 up to the write): the image in `XBUF`, `ATTEMPTS` incremented, the bus taken, the
peripheral addressed, the counted bytes sent; the write's answer is awaited next. -/
def State.sendCommand (s : State) (image : Frame) : State :=
  State.perform { s with tpd.xbuf := image, tpd.attempts := s.tpd.attempts + 1, tpd.tst := .write } .busBegin fun t =>
    t.perform (.busSetAddr s.par.devAddr) fun u => u.record [.busWrite (sentBytes image)]

/-! ## The decoder unit's ends (R175, R186) -/

/-- THE SHARED RAISING OF A CONDITION OF `DEC` other than `Found` (R175, R225, R226, R233): not found, by a cause, and
no text; completion follows. -/
def State.raiseDecode (s : State) (c : Cause) : State :=
  { s with hif.res := .notFound, hif.cause := c, ndd.txtOff := 0, ndd.txtLen := 0, ndd.dst := .done }

/-- `IDX <- CE; raise BufferExhaustion` (R80, R203, R225). -/
def State.exhaust (s : State) : State := (s.setIdx s.ndd.ce.toNat).raiseDecode .truncated

/-- A length field that does not fit: `Terminator` for a terminator, else `BufferExhaustion` (R178). -/
def State.lengthCut (s : State) : State :=
  if s.ndd.tlvT = Config.tlvTerm then (s.setIdx s.ndd.ce.toNat).raiseDecode .terminator else s.exhaust

/-- `Found` (R198): the text span, the cursor behind it. -/
def State.raiseFound (s : State) (start len : Nat) : State :=
  { s with hif.res := .found, hif.cause := .none, ndd.txtOff := BitVec.ofNat 16 start,
           ndd.txtLen := BitVec.ofNat 16 len, ndd.idx := BitVec.ofNat 16 (start + len), ndd.dst := .done }

/-! ## The outer scan and the record scan (R176 to R201) -/

/-- `ReadType` (R176): the type byte read at the cursor; a length field follows unless the type is `0x00`. -/
def State.readType (s : State) (t : Byte) (next : Dst) : State :=
  { s with ndd.tlvT := t, ndd.idx := s.ndd.idx + 1, ndd.dst := next }

/-- The end of `ReadLength` and the message end (R178, R179): `n` bytes read, `MSGEND = IDX + TLV_L` without wrap. -/
def State.readLength (s : State) (n : Nat) (l : Half) : State :=
  { s with ndd.tlvL := l, ndd.idx := BitVec.ofNat 16 (s.ndd.idx.toNat + n),
           ndd.msgend := BitVec.ofNat 17 (s.ndd.idx.toNat + n + l.toNat), ndd.dst := .dispatch }

/-- `ReadRecordHeader` (R196): the fixed part of `n` bytes read, `BODY` at the type field, classification next. -/
def State.readHeader (s : State) (n : Nat) (hdr typelen : Byte) (paylen : BitVec 32) (ridlen : Byte) : State :=
  { s with ndd.hdr := hdr, ndd.typelen := typelen, ndd.paylen := paylen, ndd.ridlen := ridlen,
           ndd.idx := BitVec.ofNat 16 (s.ndd.idx.toNat + n), ndd.body := BitVec.ofNat 16 (s.ndd.idx.toNat + n),
           ndd.dst := .record, ndd.inBody := true }

/-- The end of the record by its declared lengths: `BODY + TYPELEN + RIDLEN + PAYLEN` (R199, R200). -/
def State.recordEnd (s : State) : Nat :=
  s.ndd.body.toNat + s.ndd.typelen.toNat + s.ndd.ridlen.toNat + s.ndd.paylen.toNat

/-- A record passed over (R200), then the message-end test (R201): `ME` returns to the outer scan. -/
def State.passRecord (s : State) : State :=
  let t := s.skip s.recordEnd
  { t with ndd.inBody := false, ndd.dst := if hdrME s.ndd.hdr then .readType else .record }

/-- `Reject()` (R199): `BADTXT` set, the record passed over like any other. -/
def State.rejectRecord (s : State) : State := { s with hif.badtxt := true }.passRecord

end Sys2Proof.Machine
end

