-- ==== Sys2Proof/Machine/Decoder.lean ====
section
/-! DEFINITION. The decoder unit's meanings (spec/42_tlv_scan.md, spec/43_ndef_record_scan.md): `DEC`, the TLV types,
the length forms, the record layouts and the two record classes. A TLV type is met twice: at `D_READTYPE`, where its
byte is read from the TagBuffer, and at `D_DISPATCH`, where it is acted on behind its length (R176). -/

namespace Sys2Proof.Machine

/-- `DEC` (R175): accepted; `CE <- TB_LEN`, the cursor and the outputs cleared, the outer scan begins. -/
def execDec (s : State) : Outcome :=
  s.request 0x30 (fun t =>
    { t with ndd.ce := t.tb.len, ndd.idx := 0, ndd.txtOff := 0, ndd.txtLen := 0, hif.badtxt := false,
             ndd.dst := .readType, ndd.inBody := false })

/-- `TLV_NULL` (R177): the type byte is the whole block. -/
def execTlvNull (s : State) : Outcome := .next (s.readType Config.tlvNull .readType)

/-- `TLV_NDEF` (R176, R180): its length is read; dispatched, the record scan is entered. -/
def execTlvNdef (s : State) : Outcome :=
  if s.ndd.dst = .dispatch then .next { s with ndd.dst := .record, ndd.inBody := false }
  else .next (s.readType Config.tlvNdef .readLength)

/-- `TLV_TERMINATOR` (R176, R181): its length is read; dispatched, it ends the scan. -/
def execTlvTerminator (s : State) : Outcome :=
  if s.ndd.dst = .dispatch then .next (s.raiseDecode .terminator)
  else .next (s.readType Config.tlvTerm .readLength)

/-- `TLV_OPAQUE` (R176, R182): its length is read; dispatched, its value is skipped. -/
def execTlvOpaque (t : Byte) (s : State) : Outcome :=
  if s.ndd.dst = .dispatch then
    .next { s.skip (s.ndd.idx.toNat + s.ndd.tlvL.toNat) with ndd.dst := .readType }
  else .next (s.readType t .readLength)

/-- `LEN_SHORT` (R178, R179): a one-byte length field. -/
def execLenShort (l : Byte) (s : State) : Outcome := .next (s.readLength 1 (l.setWidth 16))

/-- `LEN_EXT` (R178, R179): a three-byte length field. -/
def execLenExt (l : Half) (s : State) : Outcome := .next (s.readLength 3 l)

/-- `REC_SR` (R196): three bytes, `RIDLEN` 0. -/
def execRecSr (f : RecFlags) (typeLen payLen : Byte) (s : State) : Outcome :=
  .next (s.readHeader 3 (headerByte f true false) typeLen (payLen.setWidth 32) 0)

/-- `REC_SR_IL` (R196): four bytes. -/
def execRecSrIl (f : RecFlags) (typeLen payLen idLen : Byte) (s : State) : Outcome :=
  .next (s.readHeader 4 (headerByte f true true) typeLen (payLen.setWidth 32) idLen)

/-- `REC_LONG` (R196): six bytes, `RIDLEN` 0. -/
def execRecLong (f : RecFlags) (typeLen : Byte) (payLen : BitVec 32) (s : State) : Outcome :=
  .next (s.readHeader 6 (headerByte f false false) typeLen payLen 0)

/-- `REC_LONG_IL` (R196): seven bytes. -/
def execRecLongIl (f : RecFlags) (typeLen : Byte) (payLen : BitVec 32) (idLen : Byte) (s : State) : Outcome :=
  .next (s.readHeader 7 (headerByte f false true) typeLen payLen idLen)

/-- `REC_TEXT` behind its language length (R198, R199, R203): rejected, cut, or found. -/
def State.textBody (s : State) : State :=
  if langOverrun s.ndd.langlen s.ndd.paylen then s.rejectRecord
  else
    let textLen := s.ndd.paylen.toNat - 1 - s.ndd.langlen.toNat
    let textStart := s.ndd.idx.toNat + s.ndd.langlen.toNat
    if s.ndd.ce.toNat < textStart + textLen then s.exhaust
    else s.raiseFound textStart textLen

/-- `REC_TEXT` (R198): past the type byte and the id field; an empty payload is rejected; else the language length is
read and the text follows. -/
def execRecText (s : State) : Outcome :=
  let t := State.skip { s with ndd.idx := s.ndd.idx + 1 } (s.ndd.idx.toNat + 1 + s.ndd.ridlen.toNat)
  if s.ndd.paylen = 0 then .next t.rejectRecord
  else
    match t.take 1 with
    | .ok v u => .next (State.textBody { u with ndd.langlen := BitVec.ofNat 8 v })
    | .exhausted u => .next (u.raiseDecode .truncated)
    | .noValue => .fault (.noValue t.ndd.idx.toNat)

/-- `REC_OTHER` (R200, R201): the record is passed over. -/
def execRecOther (s : State) : Outcome := .next s.passRecord

end Sys2Proof.Machine
end

