-- ==== Sys2Proof/Machine/PageLoop.lean ====
section
/-! DEFINITION. The page loop and the host's access to the TagBuffer (spec/41_page_loop.md). -/

namespace Sys2Proof.Machine

/-- `RDT` (R160): accepted, the TagBuffer emptied, the loop begins at page 4. -/
def execRdt (s : State) : Outcome := s.request 0x20 (fun t => t.tbClear.beginPage Config.firstUserPage)

/-- `RDTR` (R161): the same loop with the retrying read. -/
def execRdtr (s : State) : Outcome := s.request 0xA0 (fun t => t.tbClear.beginPage Config.firstUserPage)

/-- `TBCLR` (R162): the TagBuffer emptied; completes at once. -/
def execTbclr (s : State) : Outcome := s.request 0x40 (fun t => t.tbClear.endWith .ok .none)

/-- `TBAPP` (R163): the byte appended, or refused on a full TagBuffer; completes at once. -/
def execTbapp (b : Byte) (s : State) : Outcome :=
  s.request 0x41 (fun t =>
    if t.par.cap.toNat ≤ t.tb.len.toNat then t.endWith .refused .cap
    else (t.tbPush b).endWith .ok .none)

end Sys2Proof.Machine
end

