-- ==== Sys2Proof/Machine/Requests.lean ====
section
/-! DEFINITION. The undefined operation (R92) and the assembler's pseudo-operations (R113): a pseudo-operation's
meaning is its expansion, put before what the host does next; each request of it is issued when `BUSY = 0` (R112). -/

namespace Sys2Proof.Machine

/-- `UNDEFINED_OP` (R92, R228): accepted, refused at once. -/
def execUndefinedOp (op : Byte) (s : State) : Outcome := s.request op (fun t => t.endWith .refused .illegalOp)

/-- The requests of a pseudo-operation put before the host's coming accesses (R113). -/
def State.expand (s : State) (i : Instr) : State :=
  { s with env.script := (expansion i).map HostEvent.request ++ s.env.script }

/-- `TBLOAD` (R113): `TBCLR`, then one `TBAPP` for each byte. -/
def execTbload (bs : List Byte) (s : State) : Outcome := .next (s.expand (.tbload bs))

/-- `READID` (R113): `SELR`. -/
def execReadid (s : State) : Outcome := .next (s.expand .readid)

/-- `DUMP` (R113): `SELR`, `RDT`. -/
def execDump (s : State) : Outcome := .next (s.expand .dump)

/-- `READTEXT` (R113): `SELR`, `RDTR`, `DEC`. -/
def execReadtext (s : State) : Outcome := .next (s.expand .readtext)

end Sys2Proof.Machine
end

