-- ==== Sys2Proof/Machine/Transactor.lean ====
section
/-! DEFINITION. The transactor's meanings (spec/40_transactor.md): the four host operations, the two bus commands, the
response frame, and the moves of an attempt that no instruction stands for (`T_WRITE`, `T_SETTLE`, `T_READ`,
`T_GAP`). -/

namespace Sys2Proof.Machine

/-- `SEL` (R133): accepted, one attempt begins. -/
def execSel (s : State) : Outcome := s.request 0x01 (fun t => t.beginTries 0)

/-- `SELR` (R134): accepted, the first of at most ten attempts begins. -/
def execSelr (s : State) : Outcome := s.request 0x81 (fun t => t.beginTries 0)

/-- `RDP` (R135): accepted, one attempt at the page begins. -/
def execRdp (page : Byte) (s : State) : Outcome := s.request 0x10 (fun t => t.beginTries page)

/-- `RDPR` (R136): accepted, the first of at most twelve attempts at the page begins. -/
def execRdpr (page : Byte) (s : State) : Outcome := s.request 0x90 (fun t => t.beginTries page)

/-- `SELECT_TAG` (R93, R131): the image `01 01` built and sent. `PAGE` is not written (R28). -/
def execSelectTag (s : State) : Outcome := .next (s.sendCommand selectImage)

/-- `READ_PAGE` (R94, R131): the image `02 10 page` built and sent; `PAGE` is written (R28). -/
def execReadPage (page : Byte) (s : State) : Outcome :=
  .next (State.sendCommand { s with tpd.page := page } (readImage page))

/-- `RESP` (R98, R97, R131): the frame is validated; accepted, its payload is copied out; refused, the attempt fails. -/
def execResp (f : Frame) (s : State) : Outcome :=
  match frameCause f s.ovh with
  | .none => .next (s.okResults f (payloadCount f s.ovh)).afterSuccess
  | c => .next (s.raiseAttempt c)

/-- `T_WRITE` (R131, R221): the answer to the bus write. While there is none the block waits (R261). -/
def State.moveWrite (s : State) : State :=
  match s.env.writes with
  | [] => s
  | .ok :: rest => State.record { s with env.writes := rest, tpd.tst := .settle } [.writeAnswer .ok]
  | .err :: rest =>
    (State.record { s with env.writes := rest } [.writeAnswer .err]).perform .busEnd fun t =>
      t.raiseAttempt .busWrite

/-- `T_SETTLE` (R131, R255): the settle delay, then the bus read is issued. The `Delay` is recorded here, where it is
carried out; a reset that meets the block at `T_SETTLE` comes before it, so the history has no `Delay` of that attempt,
while a write or read whose answer is awaited is recorded already (the model's choice, notes/assumptions/20.md). -/
def State.moveSettle (s : State) : State :=
  s.perform (.busDelay s.settleMs) fun t => State.record { t with tpd.tst := .read } [.busRead 11]

/-- `T_READ` (R131, R222): the answer to the bus read. While there is none the block waits (R261). A failed read
leaves eleven free bytes in `XBUF` (R29, U1). -/
def State.moveRead (s : State) : State :=
  match s.env.reads with
  | [] => s
  | .bytes f :: rest =>
    (State.record { s with env.reads := rest } [.readAnswer (.bytes f)]).perform .busEnd fun t =>
      { t with tpd.xbuf := f, tpd.tst := .check }
  | .err :: rest =>
    (State.record { s with env.reads := rest } [.readAnswer .err]).perform .busEnd fun t =>
      State.raiseAttempt { t with env.draws := t.env.draws + 11, tpd.xbuf := drawFrame t.env.draws } .busRead

/-- `T_GAP` (R134, R136, R238): the gap between two attempts, a `Delay` event, then the next try. As at `T_SETTLE`, a
reset that meets the block at `T_GAP` comes before the `Delay` (the model's choice, notes/assumptions/20.md). -/
def State.moveGap (s : State) : State :=
  s.perform (.busDelay s.gapMs) fun t => { t with tpd.tryNo := t.tpd.tryNo + 1, tpd.tst := .build }

end Sys2Proof.Machine
end

