-- ==== Sys2Proof/Machine/Dispatch.lean ====
section
/-! DEFINITION. One arm per constructor of `Instr`, each a direct call of its meaning. -/

namespace Sys2Proof.Machine

open Sys2Proof

def exec (i : Instr) (s : State) : Host.Outcome State Fault Refusal :=
  match i with
  | .sel => Sys2Proof.Machine.execSel s
  | .selr => Sys2Proof.Machine.execSelr s
  | .rdp page => Sys2Proof.Machine.execRdp page s
  | .rdpr page => Sys2Proof.Machine.execRdpr page s
  | .rdt => Sys2Proof.Machine.execRdt s
  | .rdtr => Sys2Proof.Machine.execRdtr s
  | .dec => Sys2Proof.Machine.execDec s
  | .tbclr => Sys2Proof.Machine.execTbclr s
  | .tbapp byte => Sys2Proof.Machine.execTbapp byte s
  | .undefinedOp op => Sys2Proof.Machine.execUndefinedOp op s
  | .selectTag => Sys2Proof.Machine.execSelectTag s
  | .readPage page => Sys2Proof.Machine.execReadPage page s
  | .resp frame => Sys2Proof.Machine.execResp frame s
  | .tlvNull => Sys2Proof.Machine.execTlvNull s
  | .tlvNdef => Sys2Proof.Machine.execTlvNdef s
  | .tlvTerminator => Sys2Proof.Machine.execTlvTerminator s
  | .tlvOpaque t => Sys2Proof.Machine.execTlvOpaque t s
  | .lenShort len => Sys2Proof.Machine.execLenShort len s
  | .lenExt len => Sys2Proof.Machine.execLenExt len s
  | .recSr flags tl pl => Sys2Proof.Machine.execRecSr flags tl pl s
  | .recSrIl flags tl pl il => Sys2Proof.Machine.execRecSrIl flags tl pl il s
  | .recLong flags tl pl => Sys2Proof.Machine.execRecLong flags tl pl s
  | .recLongIl flags tl pl il => Sys2Proof.Machine.execRecLongIl flags tl pl il s
  | .recText => Sys2Proof.Machine.execRecText s
  | .recOther => Sys2Proof.Machine.execRecOther s
  | .tbload bytes => Sys2Proof.Machine.execTbload bytes s
  | .readid => Sys2Proof.Machine.execReadid s
  | .dump => Sys2Proof.Machine.execDump s
  | .readtext => Sys2Proof.Machine.execReadtext s

end Sys2Proof.Machine
end

