-- ==== Sys2Proof/Machine/HostPort.lean ====
section
/-! DEFINITION. The host's register accesses (spec/10_state.md R33, R41, R42) and reset (R250 to R252). -/

namespace Sys2Proof.Machine

/-- The low byte of a 16-bit host register, at the lower address (R41, R68). -/
def lowByte (v : Half) : Byte := v.extractLsb' 0 8

/-- The high byte of a 16-bit host register, at the higher address (R41, R68). -/
def highByte (v : Half) : Byte := v.extractLsb' 8 8

/-- The value a read of a register gives while the block is idle (R41); `TBD` is not read here. Narrow registers read
0 above their width; addresses not listed read 0. -/
def State.regValue (s : State) (a : Byte) : Byte :=
  let n := a.toNat
  if n = 0x00 then s.hif.op
  else if n = 0x01 then s.hif.arg
  else if n = 0x02 then s.hif.status
  else if n = 0x03 then s.hif.res.code.setWidth 8
  else if n = 0x04 then s.hif.cause.code.setWidth 8
  else if n = 0x05 then s.tpd.attempts.setWidth 8
  else if n = 0x06 then s.tpd.page
  else if n = 0x07 then s.tpd.idlen.setWidth 8
  else if 0x08 ≤ n ∧ n ≤ 0x0E then sevenByte s.tpd.tagid (n - 0x08)
  else if n = 0x0F then s.tpd.tagtype
  else if n = 0x10 then s.tpd.plen.setWidth 8
  else if 0x11 ≤ n ∧ n ≤ 0x17 then sevenByte s.tpd.pdata (n - 0x11)
  else if n = 0x18 then lowByte s.tb.len
  else if n = 0x19 then highByte s.tb.len
  else if n = 0x1A then lowByte s.ndd.txtOff
  else if n = 0x1B then highByte s.ndd.txtOff
  else if n = 0x1C then lowByte s.ndd.txtLen
  else if n = 0x1D then highByte s.ndd.txtLen
  else if n = 0x1E then lowByte s.ndd.idx
  else if n = 0x1F then highByte s.ndd.idx
  else if 0x20 ≤ n ∧ n ≤ 0x2A then frameByte s.tpd.xbuf (n - 0x20)
  else if n = 0x30 then lowByte s.hif.tba
  else if n = 0x31 then highByte s.hif.tba
  else 0

/-- The registers an operation writes, which read as any value while `BUSY = 1` (R42, U2); `TBD` is one of them and is
read by its own rule. -/
def opWritten (a : Byte) : Bool := decide (0x03 ≤ a.toNat ∧ a.toNat ≤ 0x2A)

/-- The bits a register has; the others read 0 (R41). -/
def regMask (a : Byte) : Byte :=
  let n := a.toNat
  if n = 0x03 ∨ n = 0x07 ∨ n = 0x10 then 0x07 else if n = 0x04 ∨ n = 0x05 then 0x0F else 0xFF

/-- A host read's address and value recorded. -/
def State.logRead (s : State) (a v : Byte) : State := { s with env.hostReads := s.env.hostReads ++ [(a, v)] }

/-- The next free byte as the value of a host read (U2, U3). -/
def State.logFree (s : State) (a mask : Byte) : State :=
  { s.logRead a (Config.freeByte s.env.draws &&& mask) with env.draws := s.env.draws + 1 }

/-- A host read of `TBD` (R33): the byte at `TBA`, or any value while busy or with `TBA` not below `TB_LEN` (U3); then
`TBA` is incremented modulo 65536. -/
def State.readTbd (s : State) : Outcome :=
  let t := { s with hif.tba := s.hif.tba + 1 }
  if s.hif.busy ∨ s.tb.len.toNat ≤ s.hif.tba.toNat then .next (t.logFree 0x32 0xFF)
  else
    match Memory.read s.tb.cells s.hif.tba.toNat with
    | some v => .next (t.logRead 0x32 v)
    | none => .fault (.noValue s.hif.tba.toNat)

/-- A host read (R41, R42). -/
def State.hostRead (s : State) (a : Byte) : Outcome :=
  if a = 0x32 then s.readTbd
  else if s.hif.busy ∧ opWritten a then .next (s.logFree a (regMask a))
  else .next (s.logRead a (s.regValue a))

/-- A host write to a register other than `OP` (R41, R42): `ARG` and `TBA` at any time; every other write is ignored. -/
def State.hostWrite (s : State) (a v : Byte) : State :=
  if a = 0x01 then { s with hif.arg := v }
  else if a = 0x30 then { s with hif.tba := highByte s.hif.tba ++ v }
  else if a = 0x31 then { s with hif.tba := v ++ lowByte s.hif.tba }
  else s

/-- Reset (R250 to R252): every register to its reset value. The parameters, the module's coming answers, the host's
coming accesses and what has been observed are not the block's and stand; no `BusEnd` is issued. -/
def State.toReset (s : State) : State := { State.reset with par := s.par, env := s.env }

/-- `rst` driven to a level (R250): asserted, it resets the block. -/
def State.driveRst (s : State) (asserted : Bool) : State :=
  let t := { s with env.rst := asserted }
  if asserted then t.toReset else t

/-- A host read while `rst` is asserted (R250): the registers are held at their reset values, so `TBA` stays 0. -/
def State.readInReset (s : State) (a : Byte) : State :=
  if a = 0x32 then (s.logFree a 0xFF).toReset else (s.logRead a (s.regValue a)).toReset

end Sys2Proof.Machine
end

