-- ==== Sys2Proof/Machine/Fetch.lean ====
section
/-! DEFINITION. What the machine does next: which element it fetches, from where and in which format, or which move it
makes that no instruction stands for. The host's next access comes first; a request waits for `BUSY = 0` (R112); else
the running operation moves, the transactor by `TST`, the decoder unit by `DST` (R39). -/

namespace Sys2Proof.Machine

/-- What a step begins with. -/
inductive Fetched where
  /-- An element: its format, the bytes it is decoded from, and the state it runs in. -/
  | element (f : Format) (bs : List Byte) (s : State)
  /-- A move that is no instruction. -/
  | move (o : Outcome)

/-- An element read from the TagBuffer at the cursor, at most `n` bytes of it (R80). -/
def State.fetchWindow (s : State) (f : Format) (n : Nat) : Fetched :=
  match s.window n with
  | some bs => .element f bs s
  | none => .move (.fault (.noValue s.ndd.idx.toNat))

/-- The record class's element: the header and type length already read, then the byte under the cursor (R197). -/
def State.fetchClass (s : State) : Fetched :=
  match s.window 1 with
  | some bs => .element .recClass (s.ndd.hdr :: s.ndd.typelen :: bs) s
  | none => .move (.fault (.noValue s.ndd.idx.toNat))

/-- The decoder unit's next move (R176 to R179, R195). -/
def State.fetchDecoder (s : State) : Fetched :=
  match s.ndd.dst with
  | .idle => .move (.next s)
  | .readType =>
    if s.ndd.ce.toNat ≤ s.ndd.idx.toNat then .move (.next (s.raiseDecode .endOfBuffer))
    else s.fetchWindow .tlv 1
  | .readLength => s.fetchWindow .tlvLen 3
  | .dispatch => .element .tlv [s.ndd.tlvT] s
  | .record =>
    if s.ndd.inBody then s.fetchClass
    else if s.ndd.idx.toNat < s.ndd.msgend.toNat ∧ s.ndd.idx.toNat < s.ndd.ce.toNat then s.fetchWindow .ndefRec 7
    else .move (.next { s with ndd.dst := .readType })
  | .done => .move (.next s.complete)

/-- The running operation's next move (R39); an idle block stays as it is and waits for the host (R43). -/
def State.fetchEngine (s : State) : Fetched :=
  if s.hif.busy then
    match s.tpd.tst with
    | .idle => s.fetchDecoder
    | .build => .element .busCmd s.commandBytes s
    | .write => .move (.next (s.unlessStuck State.moveWrite))
    | .settle => .move (.next (s.unlessStuck State.moveSettle))
    | .read => .move (.next (s.unlessStuck State.moveRead))
    | .check => .element .busResp s.tpd.xbuf.toList s
    | .gap => .move (.next (s.unlessStuck State.moveGap))
  else .move (.next s)

/-- A write of `v` to `OP`: the request word is `v` with the value `ARG` has (R23, R90). -/
def State.fetchRequest (s : State) (v : Byte) : Fetched := .element .hostReq [v, s.hif.arg] s

/-- A request of a host program issued (R112): `ARG` is written if the operation has an operand, then `OP`. -/
def State.issueRequest (s : State) (w : BitVec 16) : Fetched :=
  if hasOperand (highByte w) then State.fetchRequest { s with hif.arg := lowByte w } (highByte w)
  else s.fetchRequest (highByte w)

/-- The next move while `rst` is asserted (R250): no request is accepted and no write is taken. -/
def State.fetchInReset (s : State) : Fetched :=
  match s.env.script with
  | [] => .move (.next s)
  | .rst b :: rest => .move (.next (State.driveRst { s with env.script := rest } b))
  | .read a :: rest => .move (.next (State.readInReset { s with env.script := rest } a))
  | .pause :: rest => .move (.next { s with env.script := rest })
  | .write _ _ :: rest => .move (.next { s with env.script := rest })
  | .request _ :: rest => .move (.next { s with env.script := rest })

/-- The next move while `rst` is released. -/
def State.fetchRunning (s : State) : Fetched :=
  match s.env.script with
  | [] => s.fetchEngine
  | .pause :: rest => State.fetchEngine { s with env.script := rest }
  | .rst b :: rest => .move (.next (State.driveRst { s with env.script := rest } b))
  | .read a :: rest => .move (State.hostRead { s with env.script := rest } a)
  | .write a v :: rest =>
    if a = 0x00 then State.fetchRequest { s with env.script := rest } v
    else .move (.next (State.hostWrite { s with env.script := rest } a v))
  | .request w :: rest =>
    if s.hif.busy then s.fetchEngine else State.issueRequest { s with env.script := rest } w

/-- The machine's next move. -/
def State.fetch (s : State) : Fetched := if s.env.rst then s.fetchInReset else s.fetchRunning

/-- What follows when an element does not decode: a field that does not fit before `CE` raises `BufferExhaustion`, or
`Terminator` in a terminator's length field (R80, R178, R196, R197); bytes that are no frame stop the machine. -/
def refusedElement (f : Format) (s : State) : Outcome :=
  match f with
  | .tlvLen => .next s.lengthCut
  | .tlv | .ndefRec | .recClass => .next s.exhaust
  | .hostReq | .busCmd | .busResp => .fault .undecodable

/-- The TagBuffer holding exactly these bytes, from index 0. -/
def State.loadTagBuffer (s : State) (bs : List Byte) : State := s.tbClear.tbAppend bs

/-- The decoder unit running `DEC` over exactly these bytes, its cursor at index 0 and in the given state. -/
def State.loadDecoder (s : State) (bs : List Byte) (d : Dst) : State :=
  let t := s.loadTagBuffer bs
  { t with hif.op := 0x30, hif.busy := true, tpd.tst := .idle, ndd.ce := t.tb.len, ndd.idx := 0, ndd.msgend := 11,
           ndd.dst := d, ndd.inBody := false, env.rst := false, env.script := .pause :: s.env.script }

/-- The element of a format placed where the next step fetches it (notes/assumptions/2.md). -/
def State.placeElement (s : State) (f : Format) (bs : List Byte) : State :=
  match f, bs with
  | .hostReq, op :: arg :: _ =>
    { s with hif.busy := false, hif.arg := arg, env.rst := false, env.script := .write 0x00 op :: s.env.script }
  | .busCmd, _ :: op :: page :: _ =>
    { s with hif.op := op, hif.busy := true, tpd.tst := .build, tpd.reqPage := page, tpd.stuck := false,
             env.rst := false, env.script := .pause :: s.env.script }
  | .busResp, _ =>
    match decodeBusResp bs with
    | .ok (.resp fr) =>
      { s with hif.op := 0x01, hif.busy := true, tpd.tst := .check, tpd.xbuf := fr,
               env.rst := false, env.script := .pause :: s.env.script }
    | _ => s
  | .tlv, _ => s.loadDecoder bs .readType
  | .tlvLen, _ => s.loadDecoder bs .readLength
  | .ndefRec, _ => s.loadDecoder bs .record
  | .recClass, hdr :: tl :: rest =>
    { s.loadDecoder rest .record with ndd.hdr := hdr, ndd.typelen := tl, ndd.inBody := true }
  | _, _ => s

end Sys2Proof.Machine
end

