-- ==== Sys2Proof/Machine/Step.lean ====
section
/-! DEFINITION. One step: fetch, decode, run; and the placing of a table word where the next step fetches. -/

namespace Sys2Proof.Machine

/-- One step of the machine (R39, R112): a move that is no instruction, or the element fetched, decoded and run. -/
def step (s : State) : Host.Outcome State Fault Refusal :=
  match s.fetch with
  | .move o => o
  | .element f bs t =>
    match decode f bs with
    | .ok i => exec i t
    | .refused _ => refusedElement f t

/-- `s` with a table word placed where its next step fetches it (notes/assumptions/2.md). -/
def State.withFetchWord (s : State) (nbits w : Nat) : State :=
  s.placeElement (tableFormat nbits w) (tableWordBytes nbits w)

end Sys2Proof.Machine
end

