-- ==== Sys2Proof/Safety.lean ====
section
/-! DEFINITION. The terms claims use: the invariants of the machine, and the operation-level meaning of R7 (each
operation as one function from idle to idle, of the module's answers or of the buffer), which the stepping machine is
claimed to carry out. -/

namespace Sys2Proof.Machine

/-! ## Invariants -/

/-- The TagBuffer holds a value at exactly the indices below `TB_LEN`, never grows past its capacity (R31), and has
room for a whole payload while the page loop reads a page (R70, R160). -/
def State.tagBufferInv (s : State) : Prop :=
  s.tb.cells.map Prod.fst = List.range s.tb.len.toNat ∧ s.tb.len.toNat ≤ s.par.cap.toNat ∧
    (s.tpd.tst ≠ .idle → s.looping = true → s.tb.len.toNat + Config.payloadMax ≤ s.par.cap.toNat)

/-- An idle block has both state machines idle, a busy one exactly one of them (R3, R22, R39), and the running
operation is one of that unit's (R91); a primitive that never returns is one of the states that issue or await one
(R261). -/
def State.engineInv (s : State) : Prop :=
  (s.hif.busy = false → s.tpd.tst = .idle ∧ s.ndd.dst = .idle) ∧
    (s.hif.busy = true → (s.tpd.tst = .idle ↔ s.ndd.dst ≠ .idle)) ∧
    (s.tpd.tst ≠ .idle → s.hif.op ∈ [0x01, 0x81, 0x10, 0x90, 0x20, 0xA0]) ∧
    (s.ndd.dst ≠ .idle → s.hif.op = 0x30) ∧
    (s.tpd.stuck = true → s.tpd.tst = .write ∨ s.tpd.tst = .settle ∨ s.tpd.tst = .read ∨ s.tpd.tst = .gap)

/-- The counts of a retrying operation (R39, R134, R136): before an attempt `ATTEMPTS + 1 = TRY`, from its command on
`ATTEMPTS = TRY`; `TRY` is within the bound, below it in a gap. -/
def State.retryCounts (s : State) : Prop :=
  s.tpd.tryNo.toNat ≤ s.maxTries ∧
    (if s.tpd.tst = .build then s.tpd.attempts.toNat + 1 = s.tpd.tryNo.toNat else s.tpd.attempts = s.tpd.tryNo) ∧
    (s.tpd.tst = .gap → s.tpd.tryNo.toNat < s.maxTries)

/-- The counts of an operation with one attempt a read (R133, R135, R160): 0, then 1, and no gap. -/
def State.singleCounts (s : State) : Prop :=
  s.tpd.tst ≠ .gap ∧ s.tpd.attempts = (if s.tpd.tst = .build then 0 else 1)

/-- `ATTEMPTS` never exceeds `N_RD_TRIES` (R27), and while the transactor runs it counts the attempts made. -/
def State.attemptInv (s : State) : Prop :=
  s.tpd.attempts.toNat ≤ Config.nRdTries ∧
    (s.tpd.tst ≠ .idle → if s.hif.retry then s.retryCounts else s.singleCounts)

/-- The decoder's cursor never passes `CE` (R35, R80, R262); a running decoder's `CE` is `TB_LEN` (R34, R85); a type
behind which a length is read is not `0x00`, and at dispatch `MSGEND = IDX + TLV_L` (R176, R179); in the body of a
record the cursor stands at `BODY` (R195). -/
def State.cursorInv (s : State) : Prop :=
  s.ndd.idx.toNat ≤ s.ndd.ce.toNat ∧
    (s.ndd.dst ≠ .idle → s.ndd.ce = s.tb.len) ∧
    (s.ndd.dst = .readLength ∨ s.ndd.dst = .dispatch → s.ndd.tlvT ≠ Config.tlvNull) ∧
    (s.ndd.dst = .dispatch → s.ndd.msgend.toNat = s.ndd.idx.toNat + s.ndd.tlvL.toNat) ∧
    (s.ndd.dst = .record → s.ndd.inBody = true → s.ndd.body = s.ndd.idx)

/-- The scan has ended: `D_DONE`, or idle with the result still standing. -/
def State.scanEnded (s : State) : Prop := s.ndd.dst = .idle ∨ s.ndd.dst = .done

/-- The result contract of `DEC` (R186): found, the text lies below `CE` and the cursor behind it; not found, there is
no text, the cause is one of three, and the cursor stands at `CE` unless a terminator ended the scan. -/
def State.decodeInv (s : State) : Prop :=
  (s.scanEnded → s.hif.res = .found →
      s.hif.cause = .none ∧ s.ndd.idx.toNat = s.ndd.txtOff.toNat + s.ndd.txtLen.toNat ∧
        s.ndd.idx.toNat ≤ s.ndd.ce.toNat) ∧
    (s.scanEnded → s.hif.res = .notFound →
      s.ndd.txtOff = 0 ∧ s.ndd.txtLen = 0 ∧
        (s.hif.cause = .terminator ∨
          ((s.hif.cause = .endOfBuffer ∨ s.hif.cause = .truncated) ∧ s.ndd.idx = s.ndd.ce)))

/-- While `rst` is asserted every register holds its reset value (R250). -/
def State.resetInv (s : State) : Prop := s.env.rst = true → s = s.toReset

/-- The bus is taken: the last of the history's begins is behind its last end (R87, R130). -/
def busHeld (h : List BusEvent) : Bool :=
  h.foldl (fun held e => match e with
    | .busBegin => true
    | .busEnd => false
    | .busSetAddr _ | .busWrite _ | .writeAnswer _ | .busDelay _ | .busRead _ | .readAnswer _ => held) false

/-- From the command to the response the block holds the bus, across the settle delay (R87). A `BusEnd` that never
returns is the one state of these in which it is on its way to release it. -/
def State.busInv (s : State) : Prop :=
  s.tpd.tst = .write ∨ s.tpd.tst = .settle ∨ s.tpd.tst = .read →
    busHeld s.env.hist = true ∨ (s.tpd.stuck = true ∧ s.env.hist.getLast? = some .busEnd)

/-! ## The operation level: the transactor (R7, R131, R134, R136, R160) -/

/-- What the attempts of one select or page read come to: how many were made, the last one's cause (`none` for
success), its response frame if one was read, and the module's answers left. -/
structure TryResult where
  made : Nat
  cause : Cause
  frame : Option Frame
  writes : List WriteAnswer
  reads : List ReadAnswer
  deriving DecidableEq, Repr

/-- One attempt as a function of the module's answers (R131); none where a primitive has no answer (R261). -/
def attemptOf (ovh : Nat) (ws : List WriteAnswer) (rs : List ReadAnswer) : Option TryResult :=
  match ws with
  | [] => none
  | .err :: ws => some ⟨1, .busWrite, none, ws, rs⟩
  | .ok :: ws =>
    match rs with
    | [] => none
    | .err :: rs => some ⟨1, .busRead, none, ws, rs⟩
    | .bytes f :: rs => some ⟨1, frameCause f ovh, some f, ws, rs⟩

/-- At most `n + 1` attempts, up to the first success (R134, R136). -/
def triesOf (ovh : Nat) : Nat → List WriteAnswer → List ReadAnswer → Option TryResult
  | 0, ws, rs => attemptOf ovh ws rs
  | n + 1, ws, rs =>
    match attemptOf ovh ws rs with
    | none => none
    | some r =>
      if r.cause = .none then some r
      else (triesOf ovh n r.writes r.reads).map (fun q => { q with made := q.made + 1 })

/-- What the page loop comes to: the TagBuffer's bytes, why it stopped, the last page read, the answers left. -/
structure LoopResult where
  bytes : List Byte
  cause : Cause
  page : Option Byte
  writes : List WriteAnswer
  reads : List ReadAnswer
  deriving DecidableEq, Repr

/-- The page loop with `left + 1` pages to go, the next being page `255 - left`, as a function of the module's answers
(R160, R161); `extra` is how many attempts a page has beyond the first. -/
def pageLoopOf (cap extra : Nat) : Nat → LoopResult → Option LoopResult
  | left, acc =>
    if cap < acc.bytes.length + Config.payloadMax then some { acc with cause := .cap }
    else
      match triesOf Config.ovhRead extra acc.writes acc.reads with
      | none => none
      | some r =>
        let page := BitVec.ofNat 8 (255 - left)
        if r.cause ≠ .none then some ⟨acc.bytes, r.cause, some page, r.writes, r.reads⟩
        else
          let n := payloadCount (r.frame.getD Frame.zero) Config.ovhRead
          let bs := acc.bytes ++ ((payloadBytes (r.frame.getD Frame.zero) n).toList.take n)
          match left with
          | 0 => some ⟨bs, .lastPage, some page, r.writes, r.reads⟩
          | k + 1 => pageLoopOf cap extra k ⟨bs, .none, some page, r.writes, r.reads⟩

/-! ## The operation level: the decoder (R7, R175 to R203) -/

/-- What `DEC` comes to: result class, cause, final cursor, text span, `BADTXT`. -/
structure ScanResult where
  res : Res
  cause : Cause
  idx : Nat
  off : Nat
  len : Nat
  bad : Bool
  deriving DecidableEq, Repr

/-- A scan that ends without a text. -/
def notFoundAt (c : Cause) (idx : Nat) (bad : Bool) : ScanResult := ⟨.notFound, c, idx, 0, 0, bad⟩

/-- A TLV length field at a cursor: the length and the cursor behind the field (R178); none if it does not fit. -/
def lengthAt (buf : List Byte) (i : Nat) : Option (Nat × Nat) :=
  match buf[i]? with
  | none => none
  | some b =>
    if b = Config.lenExt then
      match buf[i + 1]?, buf[i + 2]? with
      | some h, some l => some (256 * h.toNat + l.toNat, i + 3)
      | _, _ => none
    else some (b.toNat, i + 1)

/-- A record's fixed part (R196). -/
structure Header where
  hdr : Byte
  typelen : Nat
  paylen : Nat
  ridlen : Nat
  body : Nat
  deriving DecidableEq, Repr

/-- The payload length at a cursor: one byte, or four bytes big-endian (R105). -/
def payLenAt (buf : List Byte) (sr : Bool) (i : Nat) : Option (Nat × Nat) :=
  if sr then buf[i]?.map (fun b => (b.toNat, i + 1))
  else
    match buf[i]?, buf[i + 1]?, buf[i + 2]?, buf[i + 3]? with
    | some a, some b, some c, some d =>
      some (16777216 * a.toNat + 65536 * b.toNat + 256 * c.toNat + d.toNat, i + 4)
    | _, _, _, _ => none

/-- A record's fixed part at a cursor (R196); none if a field does not fit. -/
def headerAt (buf : List Byte) (i : Nat) : Option Header :=
  match buf[i]?, buf[i + 1]? with
  | some h, some tl =>
    match payLenAt buf (hdrSR h) (i + 2) with
    | none => none
    | some (pl, j) =>
      if hdrIL h then buf[j]?.map (fun il => ⟨h, tl.toNat, pl, il.toNat, j + 1⟩)
      else some ⟨h, tl.toNat, pl, 0, j⟩
  | _, _ => none

/-- What a record comes to: the scan ends, or the record is passed over (with `BADTXT` set if it was rejected). -/
inductive RecordEnd where
  | ends (r : ScanResult)
  | passed (bad : Bool)
  deriving DecidableEq, Repr

/-- The classification and, for a Text record, its extraction or rejection (R197, R198, R199, R203). -/
def recordAt (buf : List Byte) (h : Header) (bad : Bool) : RecordEnd :=
  if hdrTNF h.hdr = Config.tnfWellKnown ∧ h.typelen = 1 then
    match buf[h.body]? with
    | none => .ends (notFoundAt .truncated buf.length bad)
    | some t =>
      if t ≠ Config.textType then .passed bad
      else if h.paylen = 0 then .passed true
      else
        match buf[h.body + 1 + h.ridlen]? with
        | none => .ends (notFoundAt .truncated buf.length bad)
        | some g =>
          if h.paylen < 1 + g.toNat then .passed true
          else
            let start := h.body + 1 + h.ridlen + 1 + g.toNat
            let len := h.paylen - 1 - g.toNat
            if buf.length < start + len then .ends (notFoundAt .truncated buf.length bad)
            else .ends ⟨.found, .none, start + len, start, len, bad⟩
  else .passed bad

/-- The record scan (R195, R201), with fuel for its passes: the scan's end, or the cursor and `BADTXT` at which the
outer scan goes on. -/
def recordScanOf (buf : List Byte) (msgend : Nat) : Nat → Nat → Bool → ScanResult ⊕ (Nat × Bool)
  | 0, i, bad => .inr (i, bad)
  | n + 1, i, bad =>
    if i < msgend ∧ i < buf.length then
      match headerAt buf i with
      | none => .inl (notFoundAt .truncated buf.length bad)
      | some h =>
        match recordAt buf h bad with
        | .ends r => .inl r
        | .passed bad' =>
          let j := min (h.body + h.typelen + h.ridlen + h.paylen) buf.length
          if hdrME h.hdr then .inr (j, bad') else recordScanOf buf msgend n j bad'
    else .inr (i, bad)

/-- The outer scan (R176 to R184), with fuel for its passes. -/
def outerScanOf (buf : List Byte) : Nat → Nat → Bool → ScanResult
  | 0, i, bad => notFoundAt .endOfBuffer i bad
  | n + 1, i, bad =>
    match buf[i]? with
    | none => notFoundAt .endOfBuffer i bad
    | some t =>
      if t = Config.tlvNull then outerScanOf buf n (i + 1) bad
      else
        match lengthAt buf (i + 1) with
        | none =>
          notFoundAt (if t = Config.tlvTerm then .terminator else .truncated) buf.length bad
        | some (l, j) =>
          if t = Config.tlvTerm then notFoundAt .terminator j bad
          else if t = Config.tlvNdef then
            match recordScanOf buf (j + l) (buf.length + 1) j bad with
            | .inl r => r
            | .inr (k, bad') => outerScanOf buf n k bad'
          else outerScanOf buf n (min (j + l) buf.length) bad

/-- `DEC` over a buffer (R175): every pass of either loop consumes a byte, so one pass more than there are bytes is
enough (R185). -/
def scanOf (buf : List Byte) : ScanResult := outerScanOf buf (buf.length + 1) 0 false

/-! ## Runs -/

/-- Some number of steps leads from `s` to `t`. -/
def Reaches (s t : State) : Prop := ∃ n, Host.Core.run Sys2Proof.core n s = .next t

/-- The block runs `DEC` and nothing else happens meanwhile: busy, the transactor idle, no host access, no reset. -/
def State.decoding (s : State) : Prop :=
  s.hif.busy = true ∧ s.tpd.tst = .idle ∧ s.env.rst = false ∧ s.env.script = []

/-- The transactor is in this state, no primitive is stuck, and nothing else happens meanwhile. -/
def State.transacting (s : State) (d : Tst) : Prop :=
  s.hif.busy = true ∧ s.tpd.tst = d ∧ s.tpd.stuck = false ∧ s.env.rst = false ∧ s.env.script = []

/-- A primitive that never returns is in progress, and nothing else happens meanwhile (R261). -/
def State.hung (s : State) : Prop :=
  s.hif.busy = true ∧ s.tpd.stuck = true ∧
    (s.tpd.tst = .write ∨ s.tpd.tst = .settle ∨ s.tpd.tst = .read ∨ s.tpd.tst = .gap) ∧
    s.env.rst = false ∧ s.env.script = []

/-- The next step issues these events, the last of which never returns (R261); no register but the transactor's changes.
-/
def State.hangsBehind (s : State) (es : List BusEvent) : Prop :=
  ∃ t, step s = .next t ∧ t.hung ∧ t.env.hist = s.env.hist ++ es ∧ t.hif = s.hif ∧ t.tb = s.tb ∧ t.ndd = s.ndd ∧
    t.par = s.par

/-- Every primitive without an answer returns (R137, R261). -/
def State.busReturns (s : State) : Prop := ∀ b ∈ s.env.returns, b = true

/-- The register map of R41 but for `TBD`: each address and the number a read of it shows, 16-bit registers low byte
first (R68). It is written from the map and not from the accessor the machine reads by. -/
def State.registerMap (s : State) : List (Nat × Nat) :=
  [(0x00, s.hif.op.toNat), (0x01, s.hif.arg.toNat), (0x02, s.hif.status.toNat), (0x03, s.hif.res.code.toNat),
    (0x04, s.hif.cause.code.toNat), (0x05, s.tpd.attempts.toNat), (0x06, s.tpd.page.toNat),
    (0x07, s.tpd.idlen.toNat)] ++
  [(0x08, s.tpd.tagid.b0.toNat), (0x09, s.tpd.tagid.b1.toNat), (0x0A, s.tpd.tagid.b2.toNat),
    (0x0B, s.tpd.tagid.b3.toNat), (0x0C, s.tpd.tagid.b4.toNat), (0x0D, s.tpd.tagid.b5.toNat),
    (0x0E, s.tpd.tagid.b6.toNat), (0x0F, s.tpd.tagtype.toNat), (0x10, s.tpd.plen.toNat)] ++
  [(0x11, s.tpd.pdata.b0.toNat), (0x12, s.tpd.pdata.b1.toNat), (0x13, s.tpd.pdata.b2.toNat),
    (0x14, s.tpd.pdata.b3.toNat), (0x15, s.tpd.pdata.b4.toNat), (0x16, s.tpd.pdata.b5.toNat),
    (0x17, s.tpd.pdata.b6.toNat)] ++
  [(0x18, s.tb.len.toNat % 256), (0x19, s.tb.len.toNat / 256), (0x1A, s.ndd.txtOff.toNat % 256),
    (0x1B, s.ndd.txtOff.toNat / 256), (0x1C, s.ndd.txtLen.toNat % 256), (0x1D, s.ndd.txtLen.toNat / 256),
    (0x1E, s.ndd.idx.toNat % 256), (0x1F, s.ndd.idx.toNat / 256)] ++
  [(0x20, s.tpd.xbuf.b0.toNat), (0x21, s.tpd.xbuf.b1.toNat), (0x22, s.tpd.xbuf.b2.toNat),
    (0x23, s.tpd.xbuf.b3.toNat), (0x24, s.tpd.xbuf.b4.toNat), (0x25, s.tpd.xbuf.b5.toNat),
    (0x26, s.tpd.xbuf.b6.toNat), (0x27, s.tpd.xbuf.b7.toNat), (0x28, s.tpd.xbuf.b8.toNat),
    (0x29, s.tpd.xbuf.b9.toNat), (0x2A, s.tpd.xbuf.b10.toNat), (0x30, s.hif.tba.toNat % 256),
    (0x31, s.hif.tba.toNat / 256)]

/-- The bits of a register of the map that are not read as 0 (R41). -/
def registerWidth (a : Nat) : Nat :=
  if a = 0x03 ∨ a = 0x07 ∨ a = 0x10 then 3 else if a = 0x04 ∨ a = 0x05 then 4 else 8

/-- From `s` to `t` an attempt failed by a cause (R132 to R136, R160, R233): the family's result registers hold their
failure values, the result class is the family's, and a retrying operation with tries left waits in its gap; else the
operation completes, the page loop with `R_OK`. `XBUF` and the environment are said apart; nothing else differs. -/
def attemptFailed (s t : State) (c : Cause) : Prop :=
  (t.hif.cause = c ∧ t.hif.op = s.hif.op ∧ t.hif.arg = s.hif.arg ∧ t.hif.badtxt = s.hif.badtxt ∧
    t.hif.ovr = s.hif.ovr ∧ t.hif.tba = s.hif.tba) ∧
  (t.tb = s.tb ∧ t.par = s.par ∧ { t.ndd with dst := s.ndd.dst } = s.ndd) ∧
  (t.tpd.attempts = s.tpd.attempts ∧ t.tpd.page = s.tpd.page ∧ t.tpd.tryNo = s.tpd.tryNo ∧
    t.tpd.reqPage = s.tpd.reqPage ∧ t.tpd.stuck = s.tpd.stuck) ∧
  (if s.selecting = true then
    t.tpd.tagid = Seven.zero ∧ t.tpd.idlen = 0 ∧ t.tpd.tagtype = 0 ∧ t.tpd.pdata = s.tpd.pdata ∧
      t.tpd.plen = s.tpd.plen
   else
    t.tpd.pdata = Seven.zero ∧ t.tpd.plen = 0 ∧ t.tpd.tagid = s.tpd.tagid ∧ t.tpd.idlen = s.tpd.idlen ∧
      t.tpd.tagtype = s.tpd.tagtype) ∧
  (if s.hif.retry = true ∧ s.tpd.tryNo.toNat < (if s.selecting then 10 else 12) then
    t.hif.busy = s.hif.busy ∧ t.hif.done = s.hif.done ∧ t.tpd.tst = .gap ∧ t.ndd.dst = s.ndd.dst ∧
      t.hif.res = (if s.selecting then .notPresent else .noMorePages)
   else
    t.hif.busy = false ∧ t.hif.done = true ∧ t.tpd.tst = .idle ∧ t.ndd.dst = .idle ∧
      t.hif.res = (if s.selecting then .notPresent else if s.looping then .ok else .noMorePages))

/-- The block is idle, out of reset, with no further host access to come. -/
def State.quiet (s : State) : Prop :=
  s.hif.busy = false ∧ s.tpd.tst = .idle ∧ s.ndd.dst = .idle ∧ s.tpd.stuck = false ∧ s.env.rst = false ∧
    s.env.script = []

/-- Every index below `CE` holds a value. -/
def State.valuedBelowCe (s : State) : Prop := ∀ a, a < s.ndd.ce.toNat → (Memory.read s.tb.cells a).isSome = true

/-- The size of a record's fixed part, told by its header (R107). -/
def fixedPartSize (hdr : Byte) : Nat := (if hdrSR hdr then 3 else 6) + (if hdrIL hdr then 1 else 0)

/-- The bytes of the TagBuffer, `TB[0 .. TB_LEN-1]`; none if one holds no value (R31). -/
def State.tbBytes (s : State) : Option (List Byte) := Memory.readRange s.tb.cells 0 s.tb.len.toNat

end Sys2Proof.Machine
end

