-- ==== Sys2Proof/Certificates/Slice0/Obligations.lean ====
section
/-! DEFINITION. The statements for the provers. Each docstring names the rules of spec/ a statement rests on, and the
log entry where a clause rests on the model's own choice. -/

open Sys2Proof Sys2Proof.Machine

/-! ## Encoding -/

/-- Every well-formed instruction that has a format decodes from its own bytes, whatever follows them (R90 to R109). The
two record classes are written as notes/assumptions/2.md says. -/
def Obligations.DecodeEncodeAgree : Prop :=
  ∀ (i : Instr) (f : Format) (rest : List Byte), i.wellFormed = true → i.format = some f →
    decode f (encode i ++ rest) = .ok i

/-- Whatever decodes is well formed and of the format it was read in. -/
def Obligations.DecodedElementsAreWellFormed : Prop :=
  ∀ (f : Format) (bs : List Byte) (i : Instr), decode f bs = .ok i → i.wellFormed = true ∧ i.format = some f

/-- In every format whose words carry all their operands, the bytes an element was decoded from begin with its encoding:
no bit of them is dropped (R93 to R107). -/
def Obligations.DecodedBytesReencode : Prop :=
  ∀ (f : Format) (bs : List Byte) (i : Instr),
    f = .busCmd ∨ f = .busResp ∨ f = .tlv ∨ f = .tlvLen ∨ f = .ndefRec →
    decode f bs = .ok i → encode i <+: bs

/-- One word of each format, written out from the spec's encodings. -/
def Obligations.WrittenWordsDecode : Prop :=
  decode .hostReq [0x10, 0x04] = .ok (.rdp 4) ∧
    decode .busCmd [0x02, 0x10, 0x0B] = .ok (.readPage 11) ∧
    decode .busResp [0x0A, 0x01, 0x00, 0x04, 0xA1, 0xB2, 0xC3, 0xD4, 0xE5, 0xF6, 0x44] =
      .ok (.resp ⟨0x0A, 0x01, 0x00, 0x04, 0xA1, 0xB2, 0xC3, 0xD4, 0xE5, 0xF6, 0x44⟩) ∧
    decode .tlv [0xFE] = .ok .tlvTerminator ∧
    decode .tlvLen [0xFF, 0x01, 0x2C] = .ok (.lenExt 300) ∧
    decode .ndefRec [0xD1, 0x01, 0x05] = .ok (.recSr ⟨true, true, false, 1⟩ 1 5) ∧
    decode .recClass [0xD1, 0x01, 0x54] = .ok .recText

/-- Nine operation codes are defined, each a mnemonic whatever `ARG` is; every other code is the undefined operation
(R91, R92). -/
def Obligations.OperationMap : Prop :=
  ∀ op arg : Byte,
    decodeHostReq 0x01 arg = .sel ∧ decodeHostReq 0x81 arg = .selr ∧ decodeHostReq 0x10 arg = .rdp arg ∧
      decodeHostReq 0x90 arg = .rdpr arg ∧ decodeHostReq 0x20 arg = .rdt ∧ decodeHostReq 0xA0 arg = .rdtr ∧
      decodeHostReq 0x30 arg = .dec ∧ decodeHostReq 0x40 arg = .tbclr ∧ decodeHostReq 0x41 arg = .tbapp arg ∧
      (op ∉ definedOps → decodeHostReq op arg = .undefinedOp op)

/-- The TLV length field: one byte below `FF`, or `FF` and a big-endian 16-bit length of any value; the field is one
byte long or three (R101). -/
def Obligations.TlvLengthField : Prop :=
  (∀ (b : Byte) (rest : List Byte), b ≠ 0xFF →
    decode .tlvLen (b :: rest) = .ok (.lenShort b) ∧ (encode (.lenShort b)).length = 1) ∧
  ∀ (h l : Byte) (rest : List Byte),
    ∃ v : Half, decode .tlvLen (0xFF :: h :: l :: rest) = .ok (.lenExt v) ∧ v.toNat = 256 * h.toNat + l.toNat ∧
      (encode (.lenExt v)).length = 3

/-- The payload length is one byte when `SR = 1`, else four bytes big-endian; the id length is the byte read when `IL =
1`, and 0 with no byte read when `IL = 0` (R105, R106): the element decoded from a record's fixed part, run, leaves the
header byte, the type length and these lengths in their registers, and the cursor behind the bytes read. -/
def Obligations.PayloadAndIdLength : Prop :=
  ∀ (hdr tl p0 p1 p2 p3 il : Byte) (rest : List Byte) (s : State),
    (hdrSR hdr = true → hdrIL hdr = false → ∃ i t, decode .ndefRec (hdr :: tl :: p0 :: rest) = .ok i ∧
      exec i s = .next t ∧ t.ndd.hdr = hdr ∧ t.ndd.typelen = tl ∧ t.ndd.paylen.toNat = p0.toNat ∧
      t.ndd.ridlen = 0 ∧ t.ndd.idx = s.ndd.idx + 3) ∧
    (hdrSR hdr = true → hdrIL hdr = true → ∃ i t, decode .ndefRec (hdr :: tl :: p0 :: il :: rest) = .ok i ∧
      exec i s = .next t ∧ t.ndd.hdr = hdr ∧ t.ndd.typelen = tl ∧ t.ndd.paylen.toNat = p0.toNat ∧
      t.ndd.ridlen = il ∧ t.ndd.idx = s.ndd.idx + 4) ∧
    (hdrSR hdr = false → hdrIL hdr = false → ∃ i t,
      decode .ndefRec (hdr :: tl :: p0 :: p1 :: p2 :: p3 :: rest) = .ok i ∧
      exec i s = .next t ∧ t.ndd.hdr = hdr ∧ t.ndd.typelen = tl ∧
      t.ndd.paylen.toNat = 16777216 * p0.toNat + 65536 * p1.toNat + 256 * p2.toNat + p3.toNat ∧
      t.ndd.ridlen = 0 ∧ t.ndd.idx = s.ndd.idx + 6) ∧
    (hdrSR hdr = false → hdrIL hdr = true → ∃ i t,
      decode .ndefRec (hdr :: tl :: p0 :: p1 :: p2 :: p3 :: il :: rest) = .ok i ∧
      exec i s = .next t ∧ t.ndd.hdr = hdr ∧ t.ndd.typelen = tl ∧
      t.ndd.paylen.toNat = 16777216 * p0.toNat + 65536 * p1.toNat + 256 * p2.toNat + p3.toNat ∧
      t.ndd.ridlen = il ∧ t.ndd.idx = s.ndd.idx + 7)

/-! ## Steps -/

/-- A step runs the element it fetched and decoded, in the state the fetch leaves. What one step is, is the model's
choice (notes/assumptions/11.md). -/
def Obligations.StepRunsDecodedElement : Prop :=
  ∀ (s t : State) (f : Format) (bs : List Byte) (i : Instr),
    s.fetch = .element f bs t → decode f bs = .ok i → step s = exec i t

/-- Where the element comes from (R23, R39, R80, R90, R112, R131, R176, R178, R196, R197): a host write to `OP` runs the
request word's operation; an idle block's program line writes `ARG` if the operation has an operand and then `OP`; a
program line met while busy waits, the running operation moving as if the line were not there, and so does a pause,
which is then gone; the transactor runs the command of its operation at `T_BUILD` and the frame in `XBUF` at `T_CHECK`;
the decoder runs the type byte under the cursor at `D_READTYPE`, the length field there at `D_READLENGTH`, the type in
`TLV_T` at `D_DISPATCH`, a record's fixed part at the cursor in `D_RECORD` and then, in the body, the record's class
told by its header, its type length and the byte under the cursor; each field is read from the bytes before `CE` only.
The order of these moves, the pause, `inBody` and the writing of `ARG` are the model's choice (notes/assumptions/3.md,
7.md, 11.md). -/
def Obligations.StepFetchesBySequencingState : Prop :=
  ∀ s : State, s.env.rst = false →
    (∀ v rest, s.env.script = .write 0x00 v :: rest →
      step s = exec (decodeHostReq v s.hif.arg) { s with env.script := rest }) ∧
    (∀ op a : Byte, ∀ rest, s.hif.busy = false → s.env.script = .request (op ++ a) :: rest →
      step s = exec (decodeHostReq op a)
        { s with hif.arg := if op = 0x10 ∨ op = 0x90 ∨ op = 0x41 then a else s.hif.arg, env.script := rest }) ∧
    (∀ w rest t, s.hif.busy = true → s.env.script = .request w :: rest →
      step { s with env.script := [] } = .next t → step s = .next { t with env.script := s.env.script }) ∧
    (∀ rest t, s.env.script = .pause :: rest →
      step { s with env.script := [] } = .next t → step s = .next { t with env.script := rest }) ∧
    (s.transacting .build → s.selecting = true → step s = exec .selectTag s) ∧
    (s.transacting .build → s.selecting = false → step s = exec (.readPage s.tpd.reqPage) s) ∧
    (s.transacting .check → step s = exec (.resp s.tpd.xbuf) s) ∧
    (∀ b, s.decoding → s.ndd.dst = .readType → s.ndd.idx.toNat < s.ndd.ce.toNat →
      Memory.read s.tb.cells s.ndd.idx.toNat = some b → step s = exec (decodeTlvType b) s) ∧
    (∀ bs i, s.decoding → s.ndd.dst = .readLength →
      Memory.readRange s.tb.cells s.ndd.idx.toNat (min 3 (s.ndd.ce.toNat - s.ndd.idx.toNat)) = some bs →
      decode .tlvLen bs = .ok i → step s = exec i s) ∧
    (s.decoding → s.ndd.dst = .dispatch → step s = exec (decodeTlvType s.ndd.tlvT) s) ∧
    (∀ bs i, s.decoding → s.ndd.dst = .record → s.ndd.inBody = false →
      s.ndd.idx.toNat < s.ndd.msgend.toNat → s.ndd.idx.toNat < s.ndd.ce.toNat →
      Memory.readRange s.tb.cells s.ndd.idx.toNat (min 7 (s.ndd.ce.toNat - s.ndd.idx.toNat)) = some bs →
      decode .ndefRec bs = .ok i → step s = exec i s) ∧
    (∀ bs i, s.decoding → s.ndd.dst = .record → s.ndd.inBody = true →
      Memory.readRange s.tb.cells s.ndd.idx.toNat (min 1 (s.ndd.ce.toNat - s.ndd.idx.toNat)) = some bs →
      decode .recClass (s.ndd.hdr :: s.ndd.typelen :: bs) = .ok i → step s = exec i s)

/-- A step only adds to the bus history and changes no parameter, and the capacity is between 7 and 65535 (R13, R130,
R253). The form of the history, and that it lasts over operations and reset, is notes/assumptions/9.md. -/
def Obligations.HistoryGrowsParametersStay : Prop :=
  ∀ s t : State, step s = .next t →
    s.env.hist <+: t.env.hist ∧ t.par = s.par ∧ 7 ≤ t.par.cap.toNat ∧ t.par.cap.toNat ≤ 65535

/-! ## Host operations: acceptance -/

/-- Acceptance on an idle block (R23, R90, R133 to R136, R160, R161, R175): `OP` reads the code, `BUSY` is set, `DONE`
cleared, and the operation begins: a select or a page read at its first attempt with `ATTEMPTS = 0`, the page loop on an
emptied TagBuffer at page 4, the decoder at index 0 with `CE = TB_LEN` and its outputs cleared. All else stands. That
`SEL`, `RDP` and `RDT` leave `TRY` as it is, is notes/assumptions/14.md; `reqPage` and `inBody` are the model's own
fields (notes/assumptions/11.md). -/
def Obligations.HostOperationsAreAccepted : Prop :=
  ∀ s : State, s.hif.busy = false →
    exec .sel s = .next { s with
      hif.op := 0x01, hif.busy := true, hif.done := false,
      tpd.attempts := 0, tpd.reqPage := 0, tpd.tst := .build } ∧
    exec .selr s = .next { s with
      hif.op := 0x81, hif.busy := true, hif.done := false,
      tpd.attempts := 0, tpd.tryNo := 1, tpd.reqPage := 0, tpd.tst := .build } ∧
    (∀ p, exec (.rdp p) s = .next { s with
      hif.op := 0x10, hif.busy := true, hif.done := false,
      tpd.attempts := 0, tpd.reqPage := p, tpd.tst := .build }) ∧
    (∀ p, exec (.rdpr p) s = .next { s with
      hif.op := 0x90, hif.busy := true, hif.done := false,
      tpd.attempts := 0, tpd.tryNo := 1, tpd.reqPage := p, tpd.tst := .build }) ∧
    exec .rdt s = .next { s with
      hif.op := 0x20, hif.busy := true, hif.done := false,
      tpd.attempts := 0, tpd.reqPage := 4, tpd.tst := .build, tb.cells := [], tb.len := 0 } ∧
    exec .rdtr s = .next { s with
      hif.op := 0xA0, hif.busy := true, hif.done := false,
      tpd.attempts := 0, tpd.tryNo := 1, tpd.reqPage := 4, tpd.tst := .build, tb.cells := [], tb.len := 0 } ∧
    exec .dec s = .next { s with
      hif.op := 0x30, hif.busy := true, hif.done := false, hif.badtxt := false,
      ndd.ce := s.tb.len, ndd.idx := 0, ndd.txtOff := 0, ndd.txtLen := 0, ndd.dst := .readType,
      ndd.inBody := false }

/-- A write to `OP` while busy sets `OVR` and does nothing else, whatever the code (R229); and only reset clears `OVR`.
-/
def Obligations.OverrunDropsTheWrite : Prop :=
  (∀ (i : Instr) (s : State), i.format = some .hostReq → s.hif.busy = true →
    exec i s = .next { s with hif.ovr := true }) ∧
  ∀ s t : State, s.hif.ovr = true → step s = .next t → t.hif.ovr = false →
    s.env.rst = true ∨ ∃ rest, s.env.script = .rst true :: rest

/-- An undefined code on an idle block completes at once, refused, with nothing else changed (R92, R228); that `OP`
reads back the undefined code is read from R23 (notes/assumptions/6.md). -/
def Obligations.UndefinedOperationRefused : Prop :=
  ∀ (op : Byte) (s : State), op ∉ definedOps → s.hif.busy = false → s.tpd.tst = .idle → s.ndd.dst = .idle →
    exec (.undefinedOp op) s = .next { s with
      hif.op := op, hif.busy := false, hif.done := true,
      hif.res := .refused, hif.cause := .illegalOp }

/-- `TBCLR` on an idle block empties the TagBuffer and completes (R162): no byte of it holds a value, no bus event
occurs, nothing else changes. -/
def Obligations.TbclrEmptiesTheTagBuffer : Prop :=
  ∀ s : State, s.hif.busy = false → s.tpd.tst = .idle → s.ndd.dst = .idle →
    exec .tbclr s = .next { s with
      hif.op := 0x40, hif.busy := false, hif.done := true,
      hif.res := .ok, hif.cause := .none, tb.cells := [], tb.len := 0 }

/-- `TBAPP` on an idle block (R163): below the capacity the byte is appended, every other byte reads as before and
`TB_LEN` is one more; on a full TagBuffer the operation is refused with no change to it. -/
def Obligations.TbappAppendsOneByte : Prop :=
  ∀ (b : Byte) (s : State), s.hif.busy = false → s.tpd.tst = .idle → s.ndd.dst = .idle →
    (s.tb.len.toNat < s.par.cap.toNat → ∃ t, exec (.tbapp b) s = .next t ∧
      t = { s with
        hif.op := 0x41, hif.busy := false, hif.done := true, hif.res := .ok, hif.cause := .none,
        tb := t.tb } ∧
      t.tb.len.toNat = s.tb.len.toNat + 1 ∧
      ∀ a, Memory.read t.tb.cells a =
        if a = s.tb.len.toNat then some b else Memory.read s.tb.cells a) ∧
    (s.par.cap.toNat ≤ s.tb.len.toNat → exec (.tbapp b) s = .next { s with
      hif.op := 0x41, hif.busy := false,
      hif.done := true, hif.res := .refused, hif.cause := .cap })

/-- The pseudo-operations expand to their requests, put before what the host does next (R113). The place is
notes/assumptions/3.md. -/
def Obligations.PseudoOperationsExpand : Prop :=
  ∀ (bs : List Byte) (s : State),
    exec (.tbload bs) s = .next { s with
      env.script :=
      .request 0x4000 :: bs.map (fun b => HostEvent.request ((0x41 : BitVec 8) ++ b)) ++ s.env.script } ∧
    exec .readid s = .next { s with env.script := .request 0x8100 :: s.env.script } ∧
    exec .dump s = .next { s with env.script := .request 0x8100 :: .request 0x2000 :: s.env.script } ∧
    exec .readtext s = .next { s with
      env.script :=
      .request 0x8100 :: .request 0xA000 :: .request 0x3000 :: s.env.script }

/-- `TBLOAD` of bytes that fit, run on a quiet block, leaves exactly those bytes in the TagBuffer, with no bus event and
the transactor, the decoder unit and the sticky flags as they were (R113, R162, R163). -/
def Obligations.TbloadLoadsItsBytes : Prop :=
  ∀ (bs : List Byte) (s : State), s.quiet → bs.length ≤ s.par.cap.toNat →
    ∃ t u, exec (.tbload bs) s = .next t ∧ Reaches t u ∧ u.quiet ∧ u.tbBytes = some bs ∧ u.hif.res = .ok ∧
      u.env.hist = s.env.hist ∧ u.ndd = s.ndd ∧ u.tpd = s.tpd ∧ u.par = s.par ∧ u.hif.tba = s.hif.tba ∧
      u.hif.ovr = s.hif.ovr ∧ u.hif.badtxt = s.hif.badtxt

/-! ## The transactor -/

/-- `SELECT_TAG` (R93): the image `01 01 00 ...` in `XBUF`, two bytes `01 01` sent to `DEV_ADDR` on the bus just taken,
`ATTEMPTS` one more; nothing else changes. That the two primitives before the write return is told by the model's list
`env.returns` (notes/assumptions/8.md); the events' form and the moment they are recorded are notes/assumptions/9.md. -/
def Obligations.SelectTagCommandSent : Prop :=
  ∀ s : State, s.tpd.stuck = false → false ∉ s.env.returns.take 2 → exec .selectTag s = .next { s with
    tpd.xbuf := ⟨0x01, 0x01, 0, 0, 0, 0, 0, 0, 0, 0, 0⟩, tpd.attempts := s.tpd.attempts + 1, tpd.tst := .write,
    env.returns := s.env.returns.drop 2,
    env.hist := s.env.hist ++ [.busBegin, .busSetAddr s.par.devAddr, .busWrite [0x01, 0x01]] }

/-- `READ_PAGE` (R94): the image `02 10 page 00 ...` in `XBUF`, three bytes `02 10 page` sent to `DEV_ADDR` on the bus
just taken, `PAGE` written, `ATTEMPTS` one more; nothing else changes. That the two primitives before the write return
is told by the model's list `env.returns` (notes/assumptions/8.md); the events' form and the moment they are recorded
are notes/assumptions/9.md. -/
def Obligations.ReadPageCommandSent : Prop :=
  ∀ (p : Byte) (s : State), s.tpd.stuck = false → false ∉ s.env.returns.take 2 → exec (.readPage p) s = .next { s with
    tpd.page := p, tpd.xbuf := ⟨0x02, 0x10, p, 0, 0, 0, 0, 0, 0, 0, 0⟩, tpd.attempts := s.tpd.attempts + 1,
    tpd.tst := .write, env.returns := s.env.returns.drop 2,
    env.hist := s.env.hist ++ [.busBegin, .busSetAddr s.par.devAddr, .busWrite [0x02, 0x10, p]] }

/-- An accepted response of a select (R30, R97, R98, R133): the tag id's bytes are copied out up to the clamped count,
the rest of `TAGID` is zero, the byte behind the id is the tag type, and the operation completes; page results,
TagBuffer, history and everything else stand. -/
def Obligations.SelectResponseAccepted : Prop :=
  ∀ (f : Frame) (s : State), s.selecting = true → f.b2 = 0 → 3 < f.b0.toNat →
    ∃ t, exec (.resp f) s = .next t ∧
      t = { s with
        hif.busy := false, hif.done := true, hif.res := .ok, hif.cause := .none, tpd.tst := .idle,
        ndd.dst := .idle, tpd.tagid := t.tpd.tagid, tpd.idlen := t.tpd.idlen,
        tpd.tagtype := t.tpd.tagtype } ∧
      t.tpd.idlen.toNat = min (f.b0.toNat - 3) 7 ∧
      (∀ i, i < 7 → sevenByte t.tpd.tagid i = if i < min (f.b0.toNat - 3) 7 then frameByte f (3 + i) else 0) ∧
      t.tpd.tagtype = frameByte f (3 + min (f.b0.toNat - 3) 7)

/-- An accepted response of `RDP` or `RDPR` (R32, R97, R98, R135): the payload is copied out up to the clamped count of
at most 7, the rest of `PDATA` is zero, and the operation completes; everything else stands. -/
def Obligations.ReadResponseAccepted : Prop :=
  ∀ (f : Frame) (s : State), s.selecting = false → s.looping = false → f.b2 = 0 → 2 < f.b0.toNat →
    ∃ t, exec (.resp f) s = .next t ∧
      t = { s with
        hif.busy := false, hif.done := true, hif.res := .ok, hif.cause := .none, tpd.tst := .idle,
        ndd.dst := .idle, tpd.pdata := t.tpd.pdata, tpd.plen := t.tpd.plen } ∧
      t.tpd.plen.toNat = min (f.b0.toNat - 2) 7 ∧
      (∀ i, i < 7 → sevenByte t.tpd.pdata i = if i < min (f.b0.toNat - 2) 7 then frameByte f (3 + i) else 0)

/-- An accepted response inside the page loop, with room for a payload (R31, R70, R160): the payload is appended at
`TB_LEN` whole, every other byte of the TagBuffer reads as before; the loop completes behind page 255 with `C_LASTPAGE`,
or with `C_CAP` where fewer than seven bytes of room are left, and else begins the next page. The payload stands in
`PDATA`; the tag's results, the decoder's registers and the other host registers are as before. The page of the loop is
`reqPage`, the model's own field (notes/assumptions/11.md). -/
def Obligations.LoopResponseAppended : Prop :=
  ∀ (f : Frame) (s : State), s.looping = true → f.b2 = 0 → 2 < f.b0.toNat →
    s.tb.len.toNat + 7 ≤ s.par.cap.toNat →
    ∃ t, exec (.resp f) s = .next t ∧
      t.tb.len.toNat = s.tb.len.toNat + min (f.b0.toNat - 2) 7 ∧
      (∀ a, Memory.read t.tb.cells a =
        if s.tb.len.toNat ≤ a ∧ a < s.tb.len.toNat + min (f.b0.toNat - 2) 7
        then some (frameByte f (3 + (a - s.tb.len.toNat))) else Memory.read s.tb.cells a) ∧
      t.hif.res = .ok ∧ t.env = s.env ∧ t.par = s.par ∧ t.tpd.xbuf = s.tpd.xbuf ∧ t.tpd.page = s.tpd.page ∧
      t.tpd.plen.toNat = min (f.b0.toNat - 2) 7 ∧ t.tpd.pdata = payloadBytes f (min (f.b0.toNat - 2) 7) ∧
      t.tpd.tagid = s.tpd.tagid ∧ t.tpd.idlen = s.tpd.idlen ∧ t.tpd.tagtype = s.tpd.tagtype ∧
      t.hif.op = s.hif.op ∧ t.hif.arg = s.hif.arg ∧ t.hif.tba = s.hif.tba ∧ t.hif.ovr = s.hif.ovr ∧
      t.hif.badtxt = s.hif.badtxt ∧ t.tpd.stuck = s.tpd.stuck ∧ { t.ndd with dst := s.ndd.dst } = s.ndd ∧
      (if s.tpd.reqPage = 255 then
         t.hif.busy = false ∧ t.hif.done = true ∧ t.hif.cause = .lastPage ∧ t.tpd.attempts = s.tpd.attempts
       else if s.par.cap.toNat < t.tb.len.toNat + 7 then
         t.hif.busy = false ∧ t.hif.done = true ∧ t.hif.cause = .cap ∧ t.tpd.attempts = s.tpd.attempts
       else t.hif.busy = s.hif.busy ∧ t.hif.done = s.hif.done ∧ t.tpd.tst = .build ∧
         t.tpd.reqPage = s.tpd.reqPage + 1 ∧ t.tpd.attempts = 0)

/-- A refused response (R98, R132, R133 to R136, R160, R223, R224): a non-zero status whatever the length, else a length
at or below the overhead. The result registers of the family are zeroed and the cause recorded; a retrying operation
with attempts left goes to its gap; else the operation completes, the page loop with `R_OK`. -/
def Obligations.ResponseRefused : Prop :=
  ∀ (f : Frame) (s : State) (c : Cause),
    (f.b2 ≠ 0 ∧ c = .status) ∨ (f.b2 = 0 ∧ f.b0.toNat ≤ (if s.selecting then 3 else 2) ∧ c = .framing) →
    ∃ t, exec (.resp f) s = .next t ∧ attemptFailed s t c ∧ t.tpd.xbuf = s.tpd.xbuf ∧ t.env = s.env

/-- A failed bus write (R221): the attempt ends behind `BusEnd` with no settle delay and no bus read, `XBUF` keeps the
command image, the cause is `C_BUS_WRITE`. The answer is taken from a list, and a list says that the `BusEnd` returns
(notes/assumptions/8.md); that the answer is an event of its own in the history is notes/assumptions/9.md. -/
def Obligations.BusWriteErrorEndsTheAttempt : Prop :=
  ∀ (s : State) (ws : List WriteAnswer), s.transacting .write → s.env.writes = .err :: ws →
    s.env.returns.head? ≠ some false →
    ∃ t, step s = .next t ∧ attemptFailed s t .busWrite ∧ t.tpd.xbuf = s.tpd.xbuf ∧
      t.env = { s.env with
        writes := ws, returns := s.env.returns.tail, hist := s.env.hist ++ [.writeAnswer .err, .busEnd] }

/-- A failed bus read (R222): the attempt ends behind `BusEnd`, the cause is `C_BUS_READ`, and `XBUF` is eleven free
bytes, whatever they are (notes/assumptions/1.md). The answer is taken from a list, and a list says that the `BusEnd`
returns (notes/assumptions/8.md); that the answer is an event of its own in the history is notes/assumptions/9.md. -/
def Obligations.BusReadErrorEndsTheAttempt : Prop :=
  ∀ (s : State) (rs : List ReadAnswer), s.transacting .read → s.env.reads = .err :: rs →
    s.env.returns.head? ≠ some false →
    ∃ t, step s = .next t ∧ attemptFailed s t .busRead ∧ t.tpd.xbuf = drawFrame s.env.draws ∧
      t.env = { s.env with
        reads := rs, returns := s.env.returns.tail, hist := s.env.hist ++ [.readAnswer .err, .busEnd],
        draws := s.env.draws + 11 }

/-- An attempt whose write and read succeed and whose other primitives return (R84, R131): the bus events begin,
address-set, write, settle delay, read, end in this order, and the response frame in `XBUF` to be checked. That this
takes four steps is notes/assumptions/11.md, the lists of answers notes/assumptions/8.md, and the form of the events,
the answers among them, notes/assumptions/9.md. -/
def Obligations.AttemptBusSequence : Prop :=
  ∀ (s : State) (f : Frame) (ws : List WriteAnswer) (rs : List ReadAnswer), s.transacting .build →
    s.env.writes = .ok :: ws → s.env.reads = .bytes f :: rs → false ∉ s.env.returns.take 4 →
    ∃ u, Host.Core.run Sys2Proof.core 4 s = .next u ∧ u.transacting .check ∧ u.tpd.xbuf = f ∧
      u.tpd.attempts = s.tpd.attempts + 1 ∧ u.env.writes = ws ∧ u.env.reads = rs ∧
      u.env.returns = s.env.returns.drop 4 ∧
      u.env.hist = s.env.hist ++ [.busBegin, .busSetAddr s.par.devAddr,
        .busWrite (if s.selecting then [0x01, 0x01] else [0x02, 0x10, s.tpd.reqPage]), .writeAnswer .ok,
        .busDelay (if s.selecting then s.par.tSettleSel else 12), .busRead 11, .readAnswer (.bytes f), .busEnd]

/-- The gap between attempts (R134, R136, R238): one `Delay` event, of 50 ms in a select and of 0 in a read; the next
attempt is the next try. That the read's `Delay` of 0 is recorded, which R136 lets be left out, is
notes/assumptions/13.md; that it returns is told by a list (notes/assumptions/8.md). -/
def Obligations.RetryGap : Prop :=
  ∀ s : State, s.transacting .gap → s.env.returns.head? ≠ some false → step s = .next { s with
    tpd.tryNo := s.tpd.tryNo + 1, tpd.tst := .build, env.returns := s.env.returns.tail,
    env.hist := s.env.hist ++ [.busDelay (if s.selecting then 50 else 0)] }

/-- A primitive that never returns (R261): the block stays as it is, `BUSY = 1`, however many steps pass. In the model a
write or read hangs where no answer is to come, and each of `BusBegin`, `BusSetAddr`, `Delay` and `BusEnd` hangs where
the list `env.returns` says so; its event is the last of the history (notes/assumptions/8.md, 9.md). -/
def Obligations.StuckPrimitiveKeepsBusy : Prop :=
  ∀ s : State,
    (∀ n, s.hung ∨ (s.transacting .write ∧ s.env.writes = []) ∨ (s.transacting .read ∧ s.env.reads = []) →
      Host.Core.run Sys2Proof.core n s = .next s ∧ s.hif.busy = true) ∧
    (s.transacting .build → s.env.returns.head? = some false → s.hangsBehind [.busBegin]) ∧
    (∀ rest, s.transacting .build → s.env.returns = true :: false :: rest →
      s.hangsBehind [.busBegin, .busSetAddr s.par.devAddr]) ∧
    (s.transacting .settle → s.env.returns.head? = some false →
      s.hangsBehind [.busDelay (if s.selecting then s.par.tSettleSel else 12)]) ∧
    (s.transacting .gap → s.env.returns.head? = some false →
      s.hangsBehind [.busDelay (if s.selecting then 50 else 0)]) ∧
    (∀ ws, s.transacting .write → s.env.writes = .err :: ws → s.env.returns.head? = some false →
      s.hangsBehind [.writeAnswer .err, .busEnd]) ∧
    ∀ a rs, s.transacting .read → s.env.reads = a :: rs → s.env.returns.head? = some false →
      s.hangsBehind [.readAnswer a, .busEnd]

/-- `SEL` and `SELR` as whole operations (R7, R133, R134, R137): accepted on a quiet block, they run to completion where
every primitive returns and the module's answers suffice, with as many transactions as attempts, the results of the last
attempt, and the page results, the TagBuffer, the decoder's registers and the other host registers as they were. The
module's answers, and which primitives return, are lists (notes/assumptions/8.md). -/
def Obligations.SelectOperation : Prop :=
  ∀ (i : Instr) (op : Byte) (extra : Nat) (s : State),
    (i = .sel ∧ op = 0x01 ∧ extra = 0) ∨ (i = .selr ∧ op = 0x81 ∧ extra = 9) → s.quiet →
    ∃ t, exec i s = .next t ∧ t.hif.busy = true ∧ t.hif.done = false ∧
      ∀ r, s.busReturns → triesOf Config.ovhSelect extra s.env.writes s.env.reads = some r →
        ∃ u, Reaches t u ∧ u.quiet ∧ u.hif.done = true ∧ u.hif.op = op ∧ u.hif.cause = r.cause ∧
          u.tpd.attempts.toNat = r.made ∧ u.env.writes = r.writes ∧ u.env.reads = r.reads ∧
          u.env.hist.count .busBegin = s.env.hist.count .busBegin + r.made ∧
          (∀ f, r.cause = .none → r.frame = some f → u.hif.res = .ok ∧ u.tpd.xbuf = f ∧
            u.tpd.idlen.toNat = payloadCount f 3 ∧ u.tpd.tagid = payloadBytes f (payloadCount f 3) ∧
            u.tpd.tagtype = frameByte f (3 + payloadCount f 3)) ∧
          (r.cause ≠ .none → u.hif.res = .notPresent ∧ u.tpd.tagid = Seven.zero ∧ u.tpd.idlen = 0 ∧
            u.tpd.tagtype = 0) ∧
          u.tpd.page = s.tpd.page ∧ u.tpd.pdata = s.tpd.pdata ∧ u.tpd.plen = s.tpd.plen ∧ u.tb = s.tb ∧
          u.ndd = s.ndd ∧ u.par = s.par ∧ u.hif.arg = s.hif.arg ∧ u.hif.tba = s.hif.tba ∧ u.hif.ovr = s.hif.ovr ∧
          u.hif.badtxt = s.hif.badtxt

/-- `RDP` and `RDPR` as whole operations (R7, R135, R136, R137): as for select, where every primitive returns and the
module's answers suffice, with the payload in `PDATA`, `PAGE` the page asked for, and the tag's results as they were.
The module's answers, and which primitives return, are lists (notes/assumptions/8.md). -/
def Obligations.ReadOperation : Prop :=
  ∀ (i : Instr) (op p : Byte) (extra : Nat) (s : State),
    (i = .rdp p ∧ op = 0x10 ∧ extra = 0) ∨ (i = .rdpr p ∧ op = 0x90 ∧ extra = 11) → s.quiet →
    ∃ t, exec i s = .next t ∧ t.hif.busy = true ∧ t.hif.done = false ∧
      ∀ r, s.busReturns → triesOf Config.ovhRead extra s.env.writes s.env.reads = some r →
        ∃ u, Reaches t u ∧ u.quiet ∧ u.hif.done = true ∧ u.hif.op = op ∧ u.hif.cause = r.cause ∧
          u.tpd.attempts.toNat = r.made ∧ u.env.writes = r.writes ∧ u.env.reads = r.reads ∧
          u.env.hist.count .busBegin = s.env.hist.count .busBegin + r.made ∧ u.tpd.page = p ∧
          (∀ f, r.cause = .none → r.frame = some f → u.hif.res = .ok ∧ u.tpd.xbuf = f ∧
            u.tpd.plen.toNat = payloadCount f 2 ∧ u.tpd.pdata = payloadBytes f (payloadCount f 2)) ∧
          (r.cause ≠ .none → u.hif.res = .noMorePages ∧ u.tpd.pdata = Seven.zero ∧ u.tpd.plen = 0) ∧
          u.tpd.tagid = s.tpd.tagid ∧ u.tpd.idlen = s.tpd.idlen ∧ u.tpd.tagtype = s.tpd.tagtype ∧ u.tb = s.tb ∧
          u.ndd = s.ndd ∧ u.par = s.par ∧ u.hif.arg = s.hif.arg ∧ u.hif.tba = s.hif.tba ∧ u.hif.ovr = s.hif.ovr ∧
          u.hif.badtxt = s.hif.badtxt

/-- `RDT` and `RDTR` as whole operations (R7, R160, R161, R164): run to completion where every primitive returns and the
module's answers suffice, they leave in the TagBuffer exactly the payloads of the pages read, in page order from page 4,
with `R_OK` and the cause of the stop; the tag's results, the decoder's registers and the other host registers are as
they were. The module's answers, and which primitives return, are lists (notes/assumptions/8.md). -/
def Obligations.PageLoopOperation : Prop :=
  ∀ (i : Instr) (op : Byte) (extra : Nat) (s : State),
    (i = .rdt ∧ op = 0x20 ∧ extra = 0) ∨ (i = .rdtr ∧ op = 0xA0 ∧ extra = 11) → s.quiet →
    ∃ t, exec i s = .next t ∧
      ∀ r, s.busReturns → pageLoopOf s.par.cap.toNat extra 251 ⟨[], .none, none, s.env.writes, s.env.reads⟩ = some r →
        ∃ u, Reaches t u ∧ u.quiet ∧ u.hif.done = true ∧ u.hif.op = op ∧ u.hif.res = .ok ∧
          u.hif.cause = r.cause ∧ u.tbBytes = some r.bytes ∧ u.tb.len.toNat = r.bytes.length ∧
          (∀ p, r.page = some p → u.tpd.page = p) ∧ u.env.writes = r.writes ∧ u.env.reads = r.reads ∧
          u.tpd.tagid = s.tpd.tagid ∧ u.tpd.idlen = s.tpd.idlen ∧ u.tpd.tagtype = s.tpd.tagtype ∧
          u.ndd = s.ndd ∧ u.par = s.par ∧ u.hif.arg = s.hif.arg ∧ u.hif.tba = s.hif.tba ∧ u.hif.ovr = s.hif.ovr ∧
          u.hif.badtxt = s.hif.badtxt

/-! ## The decoder -/

/-- `DEC` as a whole operation (R7, R175 to R186, R195 to R203): accepted on a quiet block, it completes for every
buffer content with the result, cause, final cursor, text span and `BADTXT` of the pseudocode, and changes neither the
TagBuffer nor the transactor's registers nor the bus history. -/
def Obligations.DecodeOperation : Prop :=
  ∀ (s : State) (buf : List Byte), s.quiet → s.tbBytes = some buf →
    ∃ t, exec .dec s = .next t ∧ t.hif.busy = true ∧ t.hif.done = false ∧
      ∃ u, Reaches t u ∧ u.quiet ∧ u.hif.done = true ∧ u.hif.op = 0x30 ∧ u.hif.res = (scanOf buf).res ∧
        u.hif.cause = (scanOf buf).cause ∧ u.hif.badtxt = (scanOf buf).bad ∧ u.ndd.ce = s.tb.len ∧
        u.ndd.idx.toNat = (scanOf buf).idx ∧ u.ndd.txtOff.toNat = (scanOf buf).off ∧
        u.ndd.txtLen.toNat = (scanOf buf).len ∧ u.tb = s.tb ∧ u.tpd = s.tpd ∧ u.env = s.env ∧ u.par = s.par ∧
        u.hif.arg = s.hif.arg ∧ u.hif.tba = s.hif.tba ∧ u.hif.ovr = s.hif.ovr

/-- `TLV_NULL` (R177): `TLV_T` is written and `IDX` advances by 1; no length is read and nothing else changes. -/
def Obligations.TlvNullTakesItsByte : Prop :=
  ∀ s : State, s.ndd.idx.toNat < s.ndd.ce.toNat → ∃ t, exec .tlvNull s = .next t ∧
    t = { s with ndd.tlvT := 0x00, ndd.idx := t.ndd.idx, ndd.dst := .readType } ∧
    t.ndd.idx.toNat = s.ndd.idx.toNat + 1

/-- ReadType of a type that has a length (R176): `TLV_T` is written, `IDX` advances by 1, the length is read next. -/
def Obligations.TlvTypeReadBeforeItsLength : Prop :=
  ∀ (i : Instr) (b : Byte) (s : State), s.ndd.dst = .readType → s.ndd.idx.toNat < s.ndd.ce.toNat →
    (i = .tlvNdef ∧ b = 0x03) ∨ (i = .tlvTerminator ∧ b = 0xFE) ∨ i = .tlvOpaque b →
    ∃ t, exec i s = .next t ∧ t = { s with ndd.tlvT := b, ndd.idx := t.ndd.idx, ndd.dst := .readLength } ∧
      t.ndd.idx.toNat = s.ndd.idx.toNat + 1

/-- Dispatch (R179 to R182): an NDEF message enters the record scan at the cursor; a terminator ends the scan with
`C_TERMINATOR` and no text, the cursor behind its length; an opaque block's value is skipped, clamped to `CE`. `inBody`
is the model's own field (notes/assumptions/11.md). -/
def Obligations.TlvDispatch : Prop :=
  ∀ s : State, s.ndd.dst = .dispatch →
    exec .tlvNdef s = .next { s with ndd.dst := .record, ndd.inBody := false } ∧
    exec .tlvTerminator s = .next { s with
      hif.res := .notFound, hif.cause := .terminator, ndd.txtOff := 0,
      ndd.txtLen := 0, ndd.dst := .done } ∧
    ∀ b, ∃ t, exec (.tlvOpaque b) s = .next t ∧
      t = { s with ndd.idx := t.ndd.idx, ndd.dst := .readType } ∧
      t.ndd.idx.toNat = min (s.ndd.idx.toNat + s.ndd.tlvL.toNat) s.ndd.ce.toNat

/-- ReadLength (R178, R179): a length field that fits before `CE` is consumed, `TLV_L` is its value, and `MSGEND = IDX +
TLV_L` without wrap; dispatch is next. -/
def Obligations.LengthFieldRead : Prop :=
  ∀ (i : Instr) (n l : Nat) (s : State),
    (∃ b : Byte, i = .lenShort b ∧ n = 1 ∧ l = b.toNat) ∨ (∃ v : Half, i = .lenExt v ∧ n = 3 ∧ l = v.toNat) →
    s.ndd.idx.toNat + n ≤ s.ndd.ce.toNat →
    ∃ t, exec i s = .next t ∧
      t = { s with ndd.tlvL := t.ndd.tlvL, ndd.idx := t.ndd.idx, ndd.msgend := t.ndd.msgend, ndd.dst := .dispatch } ∧
      t.ndd.tlvL.toNat = l ∧ t.ndd.idx.toNat = s.ndd.idx.toNat + n ∧
      t.ndd.msgend.toNat = s.ndd.idx.toNat + n + l

/-- ReadRecordHeader (R107, R196): the four layouts consume 3, 4, 6 and 7 bytes, write the header's registers, and leave
the cursor and `BODY` at the type field; nothing else changes. `inBody` is the model's own field
(notes/assumptions/11.md). -/
def Obligations.RecordHeadersRead : Prop :=
  ∀ (i : Instr) (n : Nat) (h tl il : Byte) (pl : BitVec 32) (s : State),
    (∃ f p, i = .recSr f tl p ∧ n = 3 ∧ h = headerByte f true false ∧ pl = p.setWidth 32 ∧ il = 0) ∨
    (∃ f p, i = .recSrIl f tl p il ∧ n = 4 ∧ h = headerByte f true true ∧ pl = p.setWidth 32) ∨
    (∃ f, i = .recLong f tl pl ∧ n = 6 ∧ h = headerByte f false false ∧ il = 0) ∨
    (∃ f, i = .recLongIl f tl pl il ∧ n = 7 ∧ h = headerByte f false true) →
    s.ndd.idx.toNat + n ≤ s.ndd.ce.toNat →
    ∃ t, exec i s = .next t ∧
      t = { s with
        ndd.hdr := h, ndd.typelen := tl, ndd.paylen := pl, ndd.ridlen := il, ndd.idx := t.ndd.idx,
        ndd.body := t.ndd.idx, ndd.dst := .record, ndd.inBody := true } ∧
      t.ndd.idx.toNat = s.ndd.idx.toNat + n

/-- Text extraction (R198): with a payload, a language length `g` before `CE`, a prefix within the payload and the text
wholly before `CE`, the scan ends found: the text span is the payload behind its language prefix and the cursor stands
behind it. -/
def Obligations.TextFound : Prop :=
  ∀ (s : State) (g : Byte),
    s.ndd.idx.toNat + 1 + s.ndd.ridlen.toNat + 1 ≤ s.ndd.ce.toNat →
    Memory.read s.tb.cells (s.ndd.idx.toNat + 1 + s.ndd.ridlen.toNat) = some g →
    1 + g.toNat ≤ s.ndd.paylen.toNat →
    s.ndd.idx.toNat + 1 + s.ndd.ridlen.toNat + s.ndd.paylen.toNat ≤ s.ndd.ce.toNat →
    ∃ t, exec .recText s = .next t ∧
      t = { s with
        hif.res := .found, hif.cause := .none, ndd.langlen := g, ndd.txtOff := t.ndd.txtOff,
        ndd.txtLen := t.ndd.txtLen, ndd.idx := t.ndd.idx, ndd.dst := .done } ∧
      t.ndd.txtOff.toNat = s.ndd.idx.toNat + 1 + s.ndd.ridlen.toNat + 1 + g.toNat ∧
      t.ndd.txtLen.toNat = s.ndd.paylen.toNat - 1 - g.toNat ∧
      t.ndd.idx.toNat = t.ndd.txtOff.toNat + t.ndd.txtLen.toNat

/-- Rejection (R199): a Text record with no payload, or with a language prefix longer than its payload, sets `BADTXT`
and is passed over by its declared lengths, clamped to `CE`; `ME` decides whether the record scan goes on (R201).
`inBody` is the model's own field (notes/assumptions/11.md). -/
def Obligations.TextRejected : Prop :=
  ∀ s : State, s.ndd.idx.toNat < s.ndd.ce.toNat →
    s.ndd.paylen = 0 ∨ (∃ g : Byte, s.ndd.idx.toNat + 1 + s.ndd.ridlen.toNat + 1 ≤ s.ndd.ce.toNat ∧
      Memory.read s.tb.cells (s.ndd.idx.toNat + 1 + s.ndd.ridlen.toNat) = some g ∧
      s.ndd.paylen.toNat < 1 + g.toNat) →
    ∃ t, exec .recText s = .next t ∧
      t = { s with
        hif.badtxt := true, ndd.langlen := t.ndd.langlen, ndd.idx := t.ndd.idx, ndd.inBody := false,
        ndd.dst := if hdrME s.ndd.hdr then .readType else .record } ∧
      t.ndd.idx.toNat = min (s.ndd.body.toNat + s.ndd.typelen.toNat + s.ndd.ridlen.toNat + s.ndd.paylen.toNat)
        s.ndd.ce.toNat

/-- A Text record cut by the end of the buffer (R198, R203): no language-length byte before `CE`, or language code and
text not wholly before `CE`, gives no text: `C_TRUNCATED`, the cursor at `CE`. -/
def Obligations.TextTruncated : Prop :=
  ∀ s : State, s.ndd.idx.toNat < s.ndd.ce.toNat → s.ndd.paylen ≠ 0 →
    s.ndd.ce.toNat < s.ndd.idx.toNat + 1 + s.ndd.ridlen.toNat + 1 ∨
      (∃ g : Byte, s.ndd.idx.toNat + 1 + s.ndd.ridlen.toNat + 1 ≤ s.ndd.ce.toNat ∧
        Memory.read s.tb.cells (s.ndd.idx.toNat + 1 + s.ndd.ridlen.toNat) = some g ∧
        1 + g.toNat ≤ s.ndd.paylen.toNat ∧
        s.ndd.ce.toNat < s.ndd.idx.toNat + 1 + s.ndd.ridlen.toNat + s.ndd.paylen.toNat) →
    ∃ t, exec .recText s = .next t ∧
      t = { s with
        hif.res := .notFound, hif.cause := .truncated, ndd.langlen := t.ndd.langlen, ndd.txtOff := 0,
        ndd.txtLen := 0, ndd.idx := s.ndd.ce, ndd.dst := .done }

/-- A record that is not a Text record (R200, R201): the cursor goes to the record's end by its declared lengths,
clamped to `CE`; `ME` returns to the outer scan, else the record scan goes on; nothing else changes. `inBody` is the
model's own field (notes/assumptions/11.md). -/
def Obligations.OtherRecordPassed : Prop :=
  ∀ s : State, ∃ t, exec .recOther s = .next t ∧
    t = { s with
      ndd.idx := t.ndd.idx, ndd.inBody := false,
      ndd.dst := if hdrME s.ndd.hdr then .readType else .record } ∧
    t.ndd.idx.toNat = min (s.ndd.body.toNat + s.ndd.typelen.toNat + s.ndd.ridlen.toNat + s.ndd.paylen.toNat)
      s.ndd.ce.toNat

/-- The checked cursor (R80): from a cursor at or below `CE`, `Take(n)` reads the big-endian value of the next `n` bytes
and advances by `n` if they lie before `CE` and hold values, and goes to `CE` if they do not fit; `Skip` goes to its
target or to `CE`. -/
def Obligations.CheckedCursor : Prop :=
  ∀ (s : State) (n : Nat), s.ndd.idx.toNat ≤ s.ndd.ce.toNat →
    (s.ndd.ce.toNat < s.ndd.idx.toNat + n → s.take n = .exhausted { s with ndd.idx := s.ndd.ce }) ∧
    (∀ bs, s.ndd.idx.toNat + n ≤ s.ndd.ce.toNat → Memory.readRange s.tb.cells s.ndd.idx.toNat n = some bs →
      ∃ t, s.take n = .ok (beNat bs) t ∧ t = { s with ndd.idx := t.ndd.idx } ∧
        t.ndd.idx.toNat = s.ndd.idx.toNat + n) ∧
    (s.skip n).ndd.idx.toNat = min n s.ndd.ce.toNat

/-- A field that does not fit before `CE` (R178, R196, R197): a length field, ending the scan as a terminator behind
`0xFE` and as truncated else; a record's fixed part; the type byte of a well-known record with a one-byte type. The
cursor goes to `CE`, there is no text, and nothing else changes. That the registers of a cut field keep their values is
notes/assumptions/12.md. -/
def Obligations.CutFieldsEndTheScan : Prop :=
  ∀ s : State, s.decoding → s.valuedBelowCe → s.ndd.idx.toNat ≤ s.ndd.ce.toNat →
    (s.ndd.dst = .readLength → (s.ndd.idx = s.ndd.ce ∨
        (Memory.read s.tb.cells s.ndd.idx.toNat = some 0xFF ∧ s.ndd.ce.toNat < s.ndd.idx.toNat + 3)) →
      step s = .next { s with
        hif.res := .notFound,
        hif.cause := if s.ndd.tlvT = 0xFE then .terminator else .truncated, ndd.idx := s.ndd.ce, ndd.txtOff := 0,
        ndd.txtLen := 0, ndd.dst := .done }) ∧
    (∀ hdr, s.ndd.dst = .record → s.ndd.inBody = false → s.ndd.idx.toNat < s.ndd.msgend.toNat →
      s.ndd.idx.toNat < s.ndd.ce.toNat → Memory.read s.tb.cells s.ndd.idx.toNat = some hdr →
      s.ndd.ce.toNat < s.ndd.idx.toNat + fixedPartSize hdr →
      step s = .next { s with
        hif.res := .notFound, hif.cause := .truncated, ndd.idx := s.ndd.ce, ndd.txtOff := 0,
        ndd.txtLen := 0, ndd.dst := .done }) ∧
    (s.ndd.dst = .record → s.ndd.inBody = true → s.ndd.idx = s.ndd.ce → hdrTNF s.ndd.hdr = 1 →
      s.ndd.typelen = 1 →
      step s = .next { s with
        hif.res := .notFound, hif.cause := .truncated, ndd.idx := s.ndd.ce, ndd.txtOff := 0,
        ndd.txtLen := 0, ndd.dst := .done })

/-- The tests of the two loops (R176, R183, R184, R195): at `IDX >= CE` the outer scan ends with `C_END`; the record
scan returns to the outer scan at the cursor where a record may no longer begin; a scan that has ended completes. -/
def Obligations.ScanLoopTests : Prop :=
  ∀ s : State, s.decoding →
    (s.ndd.dst = .readType → s.ndd.ce.toNat ≤ s.ndd.idx.toNat → step s = .next { s with
      hif.res := .notFound,
      hif.cause := .endOfBuffer, ndd.txtOff := 0, ndd.txtLen := 0, ndd.dst := .done }) ∧
    (s.ndd.dst = .record → s.ndd.inBody = false →
      s.ndd.msgend.toNat ≤ s.ndd.idx.toNat ∨ s.ndd.ce.toNat ≤ s.ndd.idx.toNat →
      step s = .next { s with ndd.dst := .readType }) ∧
    (s.ndd.dst = .done → step s = .next { s with hif.busy := false, hif.done := true, ndd.dst := .idle })

/-- The decoder reads no index at or beyond `CE` (R80, R262): what a step does, and what state it leaves, is the same
with any other content there. -/
def Obligations.DecoderReadsOnlyBelowCe : Prop :=
  ∀ (s : State) (cells : List Host.Cell), s.decoding →
    (∀ a, a < s.ndd.ce.toNat → Memory.read cells a = Memory.read s.tb.cells a) →
    (∀ t, step s = .next t → step { s with tb.cells := cells } = .next { t with tb.cells := cells }) ∧
    (∀ r, step s = .fault r → step { s with tb.cells := cells } = .fault r)

/-- A step of a running `DEC` writes neither the TagBuffer nor the transactor nor anything of the environment (R71,
R175, R260), and the cursor never goes back (R185). -/
def Obligations.DecoderTouchesNothingElse : Prop :=
  ∀ s t : State, s.decoding → step s = .next t →
    t.tb = s.tb ∧ t.tpd = s.tpd ∧ t.env = s.env ∧ t.par = s.par ∧ t.hif.op = s.hif.op ∧ t.hif.arg = s.hif.arg ∧
      t.hif.ovr = s.hif.ovr ∧ t.hif.tba = s.hif.tba ∧ (s.cursorInv → s.ndd.idx.toNat ≤ t.ndd.idx.toNat)

/-! ## Invariants -/

/-- Every step keeps the TagBuffer's form: values at exactly the indices below `TB_LEN`, at most `TAGBUF_CAP` of them,
room for a whole payload while the loop reads (R31, R62, R70, R160); so its cells keep their canonical form
(notes/assumptions/5.md). -/
def Obligations.TagBufferFormKept : Prop :=
  ∀ s t : State, s.tagBufferInv → step s = .next t → t.tagBufferInv ∧ Memory.wf t.tb.cells

/-- Every step keeps the engines exclusive: idle together when not busy, exactly one of them running when busy, under an
operation of that unit (R3, R22, R39). A primitive that never returns belongs to a state of the transactor that issues
or awaits one (notes/assumptions/8.md). -/
def Obligations.OneEngineRuns : Prop :=
  ∀ s t : State, s.engineInv → step s = .next t → t.engineInv

/-- Every step keeps the counts of attempts: `ATTEMPTS` never exceeds 12, a select's tries never 10, and `ATTEMPTS`
follows `TRY` (R27, R39, R134, R136). -/
def Obligations.AttemptsCounted : Prop :=
  ∀ s t : State, s.engineInv → s.attemptInv → step s = .next t → t.attemptInv

/-- Every step keeps the cursor at or below `CE`, and `CE = TB_LEN` while `DEC` runs (R34, R35, R80, R262). -/
def Obligations.CursorBounded : Prop :=
  ∀ s t : State, s.engineInv → s.cursorInv → step s = .next t → t.cursorInv

/-- Every step keeps the result contract of `DEC` (R38, R186). -/
def Obligations.DecodeResultContract : Prop :=
  ∀ s t : State, s.engineInv → s.cursorInv → s.decodeInv → step s = .next t → t.decodeInv

/-- Every step keeps the registers at their reset values while `rst` is asserted (R250). `rst` is a level in the
environment (notes/assumptions/10.md). -/
def Obligations.ResetHeld : Prop :=
  ∀ s t : State, s.resetInv → step s = .next t → t.resetInv

/-- Every step keeps the bus held from the command to the response of an attempt (R87). The one exception is a `BusEnd`
issued that never returns (notes/assumptions/8.md); the history the holding is read from is notes/assumptions/9.md. -/
def Obligations.BusHeldDuringAttempt : Prop :=
  ∀ s t : State, s.busInv → step s = .next t → t.busInv

/-- All the invariants hold right after reset. The values of the model's own fields are notes/assumptions/11.md. -/
def Obligations.InvariantsHoldAtReset : Prop :=
  State.reset.tagBufferInv ∧ Memory.wf State.reset.tb.cells ∧ State.reset.engineInv ∧ State.reset.attemptInv ∧
    State.reset.cursorInv ∧ State.reset.decodeInv ∧ State.reset.resetInv ∧ State.reset.busInv

/-- Nothing stops the block (R236): in every state that keeps the TagBuffer's form, the engines' and the cursor's
invariant, a step answers a next state, never a fault and never a refusal. A wait for an answer that does not come is a
step to the same state (notes/assumptions/8.md). -/
def Obligations.NothingStopsTheBlock : Prop :=
  ∀ s : State, s.tagBufferInv → s.engineInv → s.cursorInv → ∃ t, step s = .next t

/-! ## The host port and reset -/

/-- The host's window on the TagBuffer (R33): `TBA` is read and written as two bytes; a read of `TBD` gives the byte at
`TBA` while the block is idle and `TBA` is below `TB_LEN`, any value else (notes/assumptions/1.md), and in both cases
`TBA` is incremented modulo 65536; a write to `TBD` changes nothing. That `TBA` reads as it is while busy too is
notes/assumptions/16.md. -/
def Obligations.TagBufferWindow : Prop :=
  ∀ (s : State) (rest : List HostEvent), s.env.rst = false →
    (∀ v, s.env.script = .read 0x32 :: rest → s.hif.busy = false → s.hif.tba.toNat < s.tb.len.toNat →
      Memory.read s.tb.cells s.hif.tba.toNat = some v →
      step s = .next { s with
        hif.tba := s.hif.tba + 1, env.script := rest,
        env.hostReads := s.env.hostReads ++ [(0x32, v)] }) ∧
    (s.env.script = .read 0x32 :: rest → s.hif.busy = true ∨ s.tb.len.toNat ≤ s.hif.tba.toNat →
      ∃ v : Byte, step s = .next { s with
        hif.tba := s.hif.tba + 1, env.script := rest,
        env.hostReads := s.env.hostReads ++ [(0x32, v)], env.draws := s.env.draws + 1 }) ∧
    (∀ v : Byte, s.env.script = .write 0x30 v :: rest → ∃ t, step s = .next t ∧
      t = { s with hif.tba := t.hif.tba, env.script := rest } ∧
      t.hif.tba.toNat = 256 * (s.hif.tba.toNat / 256) + v.toNat) ∧
    (∀ v : Byte, s.env.script = .write 0x31 v :: rest → ∃ t, step s = .next t ∧
      t = { s with hif.tba := t.hif.tba, env.script := rest } ∧
      t.hif.tba.toNat = 256 * v.toNat + s.hif.tba.toNat % 256) ∧
    (s.env.script = .read 0x30 :: rest → ∃ v : Byte, v.toNat = s.hif.tba.toNat % 256 ∧
      step s = .next { s with env.script := rest, env.hostReads := s.env.hostReads ++ [(0x30, v)] }) ∧
    (s.env.script = .read 0x31 :: rest → ∃ v : Byte, v.toNat = s.hif.tba.toNat / 256 ∧
      step s = .next { s with env.script := rest, env.hostReads := s.env.hostReads ++ [(0x31, v)] }) ∧
    (∀ v : Byte, s.env.script = .write 0x32 v :: rest → step s = .next { s with env.script := rest })

/-- The host's other accesses (R41, R42, R68): a read of a register of the map gives the number the map shows, the low
byte of a 16-bit register at the lower address, while the block is idle; `OP`, `ARG` and `STATUS` read so at any time; a
register an operation writes reads as any value while busy, with no bit above its width; an address that is not listed
reads 0; a write to `ARG` is taken at any time; a write to any address but `OP`, `ARG` and `TBA` changes nothing. Any
value is a free byte (notes/assumptions/1.md); that the bits above the width read 0 while busy, and that `OP` and `ARG`
are exact then, is notes/assumptions/16.md. -/
def Obligations.HostAccesses : Prop :=
  ∀ (s : State) (a : Byte) (rest : List HostEvent), s.env.rst = false →
    (∀ n, (a.toNat, n) ∈ s.registerMap → s.hif.busy = false ∨ a.toNat ≤ 0x02 → s.env.script = .read a :: rest →
      ∃ v : Byte, v.toNat = n ∧ step s = .next { s with
        env.script := rest,
        env.hostReads := s.env.hostReads ++ [(a, v)] }) ∧
    (s.env.script = .read a :: rest → s.hif.busy = true → 0x03 ≤ a.toNat → a.toNat ≤ 0x2A →
      ∃ v : Byte, v.toNat < 2 ^ registerWidth a.toNat ∧ step s = .next { s with
        env.script := rest,
        env.hostReads := s.env.hostReads ++ [(a, v)], env.draws := s.env.draws + 1 }) ∧
    (s.env.script = .read a :: rest → 0x2B ≤ a.toNat → a.toNat ≠ 0x30 → a.toNat ≠ 0x31 → a.toNat ≠ 0x32 →
      step s = .next { s with env.script := rest, env.hostReads := s.env.hostReads ++ [(a, 0)] }) ∧
    (∀ v, s.env.script = .write 0x01 v :: rest → step s = .next { s with hif.arg := v, env.script := rest }) ∧
    (∀ v, s.env.script = .write a v :: rest → a ∉ [0x00, 0x01, 0x30, 0x31] →
      step s = .next { s with env.script := rest })

/-- `STATUS` shows `BUSY`, `DONE`, `BADTXT` and `OVR` in bits 0 to 3 and zeros above (R26). -/
def Obligations.StatusShowsTheFlags : Prop :=
  ∀ h : HostRegs, h.status.toNat =
    (if h.busy then 1 else 0) + (if h.done then 2 else 0) + (if h.badtxt then 4 else 0) + (if h.ovr then 8 else 0)

/-- After reset every register holds 0, both state machines are idle and no byte of the TagBuffer holds a value (R43).
-/
def Obligations.ResetValues : Prop :=
  State.reset.hif = ⟨0, 0, false, false, false, false, .none, .none, 0⟩ ∧
    State.reset.hif.res.code = 0 ∧ State.reset.hif.cause.code = 0 ∧ State.reset.hif.status = 0 ∧
    State.reset.tpd.attempts = 0 ∧ State.reset.tpd.page = 0 ∧ State.reset.tpd.xbuf = Frame.zero ∧
    State.reset.tpd.tagid = Seven.zero ∧ State.reset.tpd.idlen = 0 ∧ State.reset.tpd.tagtype = 0 ∧
    State.reset.tpd.pdata = Seven.zero ∧ State.reset.tpd.plen = 0 ∧ State.reset.tpd.tryNo = 0 ∧
    State.reset.tpd.tst = .idle ∧ State.reset.tb.len = 0 ∧ (∀ a, Memory.read State.reset.tb.cells a = none) ∧
    State.reset.ndd.ce = 0 ∧ State.reset.ndd.idx = 0 ∧ State.reset.ndd.tlvT = 0 ∧ State.reset.ndd.tlvL = 0 ∧
    State.reset.ndd.msgend = 0 ∧ State.reset.ndd.hdr = 0 ∧ State.reset.ndd.typelen = 0 ∧
    State.reset.ndd.paylen = 0 ∧ State.reset.ndd.ridlen = 0 ∧ State.reset.ndd.langlen = 0 ∧
    State.reset.ndd.body = 0 ∧ State.reset.ndd.txtOff = 0 ∧ State.reset.ndd.txtLen = 0 ∧
    State.reset.ndd.dst = .idle

/-- Reset at any time, a running operation among them (R250 to R252): every register goes to its reset value, no
`BusEnd` is issued, and the parameters and the module's coming answers stand. What stands through reset is
notes/assumptions/9.md and 10.md. -/
def Obligations.ResetAbandonsTheOperation : Prop :=
  ∀ (s : State) (rest : List HostEvent), s.env.script = .rst true :: rest →
    step s = .next { State.reset with par := s.par, env := { s.env with rst := true, script := rest } }
end

