-- ==== Sys2Proof/Laws/State.lean ====
section
/-! SUPPORT. What each named update of the state does to each field: one lemma per field, true by unfolding. A part of
the state (`par`, `hif`, `tpd`, `tb`, `ndd`, `env`) that an update leaves alone has one lemma for the whole part. -/

namespace Sys2Proof.Machine

variable (s : State)


/-! ## `record`: the bus history -/

@[simp] theorem State.record_par (es : List BusEvent) : (s.record es).par = s.par := rfl
@[simp] theorem State.record_hif (es : List BusEvent) : (s.record es).hif = s.hif := rfl
@[simp] theorem State.record_tpd (es : List BusEvent) : (s.record es).tpd = s.tpd := rfl
@[simp] theorem State.record_tb (es : List BusEvent) : (s.record es).tb = s.tb := rfl
@[simp] theorem State.record_ndd (es : List BusEvent) : (s.record es).ndd = s.ndd := rfl
@[simp] theorem State.record_env_rst (es : List BusEvent) : (s.record es).env.rst = s.env.rst := rfl
@[simp] theorem State.record_env_script (es : List BusEvent) : (s.record es).env.script = s.env.script := rfl
@[simp] theorem State.record_env_writes (es : List BusEvent) : (s.record es).env.writes = s.env.writes := rfl
@[simp] theorem State.record_env_reads (es : List BusEvent) : (s.record es).env.reads = s.env.reads := rfl
@[simp] theorem State.record_env_returns (es : List BusEvent) : (s.record es).env.returns = s.env.returns := rfl
@[simp] theorem State.record_env_hist (es : List BusEvent) : (s.record es).env.hist = s.env.hist ++ es := rfl
@[simp] theorem State.record_env_hostReads (es : List BusEvent) : (s.record es).env.hostReads = s.env.hostReads := rfl
@[simp] theorem State.record_env_draws (es : List BusEvent) : (s.record es).env.draws = s.env.draws := rfl

/-! ## `issue`: a primitive without an answer (R130, R261) -/

@[simp] theorem State.issue_par (e : BusEvent) : (s.issue e).par = s.par := rfl
@[simp] theorem State.issue_hif (e : BusEvent) : (s.issue e).hif = s.hif := rfl
@[simp] theorem State.issue_tpd_attempts (e : BusEvent) : (s.issue e).tpd.attempts = s.tpd.attempts := rfl
@[simp] theorem State.issue_tpd_page (e : BusEvent) : (s.issue e).tpd.page = s.tpd.page := rfl
@[simp] theorem State.issue_tpd_xbuf (e : BusEvent) : (s.issue e).tpd.xbuf = s.tpd.xbuf := rfl
@[simp] theorem State.issue_tpd_tagid (e : BusEvent) : (s.issue e).tpd.tagid = s.tpd.tagid := rfl
@[simp] theorem State.issue_tpd_idlen (e : BusEvent) : (s.issue e).tpd.idlen = s.tpd.idlen := rfl
@[simp] theorem State.issue_tpd_tagtype (e : BusEvent) : (s.issue e).tpd.tagtype = s.tpd.tagtype := rfl
@[simp] theorem State.issue_tpd_pdata (e : BusEvent) : (s.issue e).tpd.pdata = s.tpd.pdata := rfl
@[simp] theorem State.issue_tpd_plen (e : BusEvent) : (s.issue e).tpd.plen = s.tpd.plen := rfl
@[simp] theorem State.issue_tpd_tryNo (e : BusEvent) : (s.issue e).tpd.tryNo = s.tpd.tryNo := rfl
@[simp] theorem State.issue_tpd_tst (e : BusEvent) : (s.issue e).tpd.tst = s.tpd.tst := rfl
@[simp] theorem State.issue_tpd_reqPage (e : BusEvent) : (s.issue e).tpd.reqPage = s.tpd.reqPage := rfl
@[simp] theorem State.issue_tpd_stuck (e : BusEvent) :
    (s.issue e).tpd.stuck = (s.env.returns.head? == some false) := rfl
@[simp] theorem State.issue_tb (e : BusEvent) : (s.issue e).tb = s.tb := rfl
@[simp] theorem State.issue_ndd (e : BusEvent) : (s.issue e).ndd = s.ndd := rfl
@[simp] theorem State.issue_env_rst (e : BusEvent) : (s.issue e).env.rst = s.env.rst := rfl
@[simp] theorem State.issue_env_script (e : BusEvent) : (s.issue e).env.script = s.env.script := rfl
@[simp] theorem State.issue_env_writes (e : BusEvent) : (s.issue e).env.writes = s.env.writes := rfl
@[simp] theorem State.issue_env_reads (e : BusEvent) : (s.issue e).env.reads = s.env.reads := rfl
@[simp] theorem State.issue_env_returns (e : BusEvent) : (s.issue e).env.returns = s.env.returns.tail := rfl
@[simp] theorem State.issue_env_hist (e : BusEvent) : (s.issue e).env.hist = s.env.hist ++ [e] := rfl
@[simp] theorem State.issue_env_hostReads (e : BusEvent) : (s.issue e).env.hostReads = s.env.hostReads := rfl
@[simp] theorem State.issue_env_draws (e : BusEvent) : (s.issue e).env.draws = s.env.draws := rfl

/-! ## `accept`: acceptance (R90) -/

@[simp] theorem State.accept_par (op : Byte) : (s.accept op).par = s.par := rfl
@[simp] theorem State.accept_hif_op (op : Byte) : (s.accept op).hif.op = op := rfl
@[simp] theorem State.accept_hif_arg (op : Byte) : (s.accept op).hif.arg = s.hif.arg := rfl
@[simp] theorem State.accept_hif_busy (op : Byte) : (s.accept op).hif.busy = true := rfl
@[simp] theorem State.accept_hif_done (op : Byte) : (s.accept op).hif.done = false := rfl
@[simp] theorem State.accept_hif_badtxt (op : Byte) : (s.accept op).hif.badtxt = s.hif.badtxt := rfl
@[simp] theorem State.accept_hif_ovr (op : Byte) : (s.accept op).hif.ovr = s.hif.ovr := rfl
@[simp] theorem State.accept_hif_res (op : Byte) : (s.accept op).hif.res = s.hif.res := rfl
@[simp] theorem State.accept_hif_cause (op : Byte) : (s.accept op).hif.cause = s.hif.cause := rfl
@[simp] theorem State.accept_hif_tba (op : Byte) : (s.accept op).hif.tba = s.hif.tba := rfl
@[simp] theorem State.accept_tpd (op : Byte) : (s.accept op).tpd = s.tpd := rfl
@[simp] theorem State.accept_tb (op : Byte) : (s.accept op).tb = s.tb := rfl
@[simp] theorem State.accept_ndd (op : Byte) : (s.accept op).ndd = s.ndd := rfl
@[simp] theorem State.accept_env (op : Byte) : (s.accept op).env = s.env := rfl

/-! ## `overrun`: the overrun (R229) -/

@[simp] theorem State.overrun_par : (s.overrun).par = s.par := rfl
@[simp] theorem State.overrun_hif_op : (s.overrun).hif.op = s.hif.op := rfl
@[simp] theorem State.overrun_hif_arg : (s.overrun).hif.arg = s.hif.arg := rfl
@[simp] theorem State.overrun_hif_busy : (s.overrun).hif.busy = s.hif.busy := rfl
@[simp] theorem State.overrun_hif_done : (s.overrun).hif.done = s.hif.done := rfl
@[simp] theorem State.overrun_hif_badtxt : (s.overrun).hif.badtxt = s.hif.badtxt := rfl
@[simp] theorem State.overrun_hif_ovr : (s.overrun).hif.ovr = true := rfl
@[simp] theorem State.overrun_hif_res : (s.overrun).hif.res = s.hif.res := rfl
@[simp] theorem State.overrun_hif_cause : (s.overrun).hif.cause = s.hif.cause := rfl
@[simp] theorem State.overrun_hif_tba : (s.overrun).hif.tba = s.hif.tba := rfl
@[simp] theorem State.overrun_tpd : (s.overrun).tpd = s.tpd := rfl
@[simp] theorem State.overrun_tb : (s.overrun).tb = s.tb := rfl
@[simp] theorem State.overrun_ndd : (s.overrun).ndd = s.ndd := rfl
@[simp] theorem State.overrun_env : (s.overrun).env = s.env := rfl

/-! ## `setResult`: result class and cause (R24, R25) -/

@[simp] theorem State.setResult_par (r : Res) (c : Cause) : (s.setResult r c).par = s.par := rfl
@[simp] theorem State.setResult_hif_op (r : Res) (c : Cause) : (s.setResult r c).hif.op = s.hif.op := rfl
@[simp] theorem State.setResult_hif_arg (r : Res) (c : Cause) : (s.setResult r c).hif.arg = s.hif.arg := rfl
@[simp] theorem State.setResult_hif_busy (r : Res) (c : Cause) : (s.setResult r c).hif.busy = s.hif.busy := rfl
@[simp] theorem State.setResult_hif_done (r : Res) (c : Cause) : (s.setResult r c).hif.done = s.hif.done := rfl
@[simp] theorem State.setResult_hif_badtxt (r : Res) (c : Cause) : (s.setResult r c).hif.badtxt = s.hif.badtxt := rfl
@[simp] theorem State.setResult_hif_ovr (r : Res) (c : Cause) : (s.setResult r c).hif.ovr = s.hif.ovr := rfl
@[simp] theorem State.setResult_hif_res (r : Res) (c : Cause) : (s.setResult r c).hif.res = r := rfl
@[simp] theorem State.setResult_hif_cause (r : Res) (c : Cause) : (s.setResult r c).hif.cause = c := rfl
@[simp] theorem State.setResult_hif_tba (r : Res) (c : Cause) : (s.setResult r c).hif.tba = s.hif.tba := rfl
@[simp] theorem State.setResult_tpd (r : Res) (c : Cause) : (s.setResult r c).tpd = s.tpd := rfl
@[simp] theorem State.setResult_tb (r : Res) (c : Cause) : (s.setResult r c).tb = s.tb := rfl
@[simp] theorem State.setResult_ndd (r : Res) (c : Cause) : (s.setResult r c).ndd = s.ndd := rfl
@[simp] theorem State.setResult_env (r : Res) (c : Cause) : (s.setResult r c).env = s.env := rfl

/-! ## `complete`: completion (R133, R233) -/

@[simp] theorem State.complete_par : (s.complete).par = s.par := rfl
@[simp] theorem State.complete_hif_op : (s.complete).hif.op = s.hif.op := rfl
@[simp] theorem State.complete_hif_arg : (s.complete).hif.arg = s.hif.arg := rfl
@[simp] theorem State.complete_hif_busy : (s.complete).hif.busy = false := rfl
@[simp] theorem State.complete_hif_done : (s.complete).hif.done = true := rfl
@[simp] theorem State.complete_hif_badtxt : (s.complete).hif.badtxt = s.hif.badtxt := rfl
@[simp] theorem State.complete_hif_ovr : (s.complete).hif.ovr = s.hif.ovr := rfl
@[simp] theorem State.complete_hif_res : (s.complete).hif.res = s.hif.res := rfl
@[simp] theorem State.complete_hif_cause : (s.complete).hif.cause = s.hif.cause := rfl
@[simp] theorem State.complete_hif_tba : (s.complete).hif.tba = s.hif.tba := rfl
@[simp] theorem State.complete_tpd_attempts : (s.complete).tpd.attempts = s.tpd.attempts := rfl
@[simp] theorem State.complete_tpd_page : (s.complete).tpd.page = s.tpd.page := rfl
@[simp] theorem State.complete_tpd_xbuf : (s.complete).tpd.xbuf = s.tpd.xbuf := rfl
@[simp] theorem State.complete_tpd_tagid : (s.complete).tpd.tagid = s.tpd.tagid := rfl
@[simp] theorem State.complete_tpd_idlen : (s.complete).tpd.idlen = s.tpd.idlen := rfl
@[simp] theorem State.complete_tpd_tagtype : (s.complete).tpd.tagtype = s.tpd.tagtype := rfl
@[simp] theorem State.complete_tpd_pdata : (s.complete).tpd.pdata = s.tpd.pdata := rfl
@[simp] theorem State.complete_tpd_plen : (s.complete).tpd.plen = s.tpd.plen := rfl
@[simp] theorem State.complete_tpd_tryNo : (s.complete).tpd.tryNo = s.tpd.tryNo := rfl
@[simp] theorem State.complete_tpd_tst : (s.complete).tpd.tst = .idle := rfl
@[simp] theorem State.complete_tpd_reqPage : (s.complete).tpd.reqPage = s.tpd.reqPage := rfl
@[simp] theorem State.complete_tpd_stuck : (s.complete).tpd.stuck = s.tpd.stuck := rfl
@[simp] theorem State.complete_tb : (s.complete).tb = s.tb := rfl
@[simp] theorem State.complete_ndd_ce : (s.complete).ndd.ce = s.ndd.ce := rfl
@[simp] theorem State.complete_ndd_idx : (s.complete).ndd.idx = s.ndd.idx := rfl
@[simp] theorem State.complete_ndd_tlvT : (s.complete).ndd.tlvT = s.ndd.tlvT := rfl
@[simp] theorem State.complete_ndd_tlvL : (s.complete).ndd.tlvL = s.ndd.tlvL := rfl
@[simp] theorem State.complete_ndd_msgend : (s.complete).ndd.msgend = s.ndd.msgend := rfl
@[simp] theorem State.complete_ndd_hdr : (s.complete).ndd.hdr = s.ndd.hdr := rfl
@[simp] theorem State.complete_ndd_typelen : (s.complete).ndd.typelen = s.ndd.typelen := rfl
@[simp] theorem State.complete_ndd_paylen : (s.complete).ndd.paylen = s.ndd.paylen := rfl
@[simp] theorem State.complete_ndd_ridlen : (s.complete).ndd.ridlen = s.ndd.ridlen := rfl
@[simp] theorem State.complete_ndd_langlen : (s.complete).ndd.langlen = s.ndd.langlen := rfl
@[simp] theorem State.complete_ndd_body : (s.complete).ndd.body = s.ndd.body := rfl
@[simp] theorem State.complete_ndd_txtOff : (s.complete).ndd.txtOff = s.ndd.txtOff := rfl
@[simp] theorem State.complete_ndd_txtLen : (s.complete).ndd.txtLen = s.ndd.txtLen := rfl
@[simp] theorem State.complete_ndd_dst : (s.complete).ndd.dst = .idle := rfl
@[simp] theorem State.complete_ndd_inBody : (s.complete).ndd.inBody = s.ndd.inBody := rfl
@[simp] theorem State.complete_env : (s.complete).env = s.env := rfl

/-! ## `endWith`: the end of an operation by a condition (R233) -/

@[simp] theorem State.endWith_par (r : Res) (c : Cause) : (s.endWith r c).par = s.par := rfl
@[simp] theorem State.endWith_hif_op (r : Res) (c : Cause) : (s.endWith r c).hif.op = s.hif.op := rfl
@[simp] theorem State.endWith_hif_arg (r : Res) (c : Cause) : (s.endWith r c).hif.arg = s.hif.arg := rfl
@[simp] theorem State.endWith_hif_busy (r : Res) (c : Cause) : (s.endWith r c).hif.busy = false := rfl
@[simp] theorem State.endWith_hif_done (r : Res) (c : Cause) : (s.endWith r c).hif.done = true := rfl
@[simp] theorem State.endWith_hif_badtxt (r : Res) (c : Cause) : (s.endWith r c).hif.badtxt = s.hif.badtxt := rfl
@[simp] theorem State.endWith_hif_ovr (r : Res) (c : Cause) : (s.endWith r c).hif.ovr = s.hif.ovr := rfl
@[simp] theorem State.endWith_hif_res (r : Res) (c : Cause) : (s.endWith r c).hif.res = r := rfl
@[simp] theorem State.endWith_hif_cause (r : Res) (c : Cause) : (s.endWith r c).hif.cause = c := rfl
@[simp] theorem State.endWith_hif_tba (r : Res) (c : Cause) : (s.endWith r c).hif.tba = s.hif.tba := rfl
@[simp] theorem State.endWith_tpd_attempts (r : Res) (c : Cause) :
    (s.endWith r c).tpd.attempts = s.tpd.attempts := rfl
@[simp] theorem State.endWith_tpd_page (r : Res) (c : Cause) : (s.endWith r c).tpd.page = s.tpd.page := rfl
@[simp] theorem State.endWith_tpd_xbuf (r : Res) (c : Cause) : (s.endWith r c).tpd.xbuf = s.tpd.xbuf := rfl
@[simp] theorem State.endWith_tpd_tagid (r : Res) (c : Cause) : (s.endWith r c).tpd.tagid = s.tpd.tagid := rfl
@[simp] theorem State.endWith_tpd_idlen (r : Res) (c : Cause) : (s.endWith r c).tpd.idlen = s.tpd.idlen := rfl
@[simp] theorem State.endWith_tpd_tagtype (r : Res) (c : Cause) : (s.endWith r c).tpd.tagtype = s.tpd.tagtype := rfl
@[simp] theorem State.endWith_tpd_pdata (r : Res) (c : Cause) : (s.endWith r c).tpd.pdata = s.tpd.pdata := rfl
@[simp] theorem State.endWith_tpd_plen (r : Res) (c : Cause) : (s.endWith r c).tpd.plen = s.tpd.plen := rfl
@[simp] theorem State.endWith_tpd_tryNo (r : Res) (c : Cause) : (s.endWith r c).tpd.tryNo = s.tpd.tryNo := rfl
@[simp] theorem State.endWith_tpd_tst (r : Res) (c : Cause) : (s.endWith r c).tpd.tst = .idle := rfl
@[simp] theorem State.endWith_tpd_reqPage (r : Res) (c : Cause) : (s.endWith r c).tpd.reqPage = s.tpd.reqPage := rfl
@[simp] theorem State.endWith_tpd_stuck (r : Res) (c : Cause) : (s.endWith r c).tpd.stuck = s.tpd.stuck := rfl
@[simp] theorem State.endWith_tb (r : Res) (c : Cause) : (s.endWith r c).tb = s.tb := rfl
@[simp] theorem State.endWith_ndd_ce (r : Res) (c : Cause) : (s.endWith r c).ndd.ce = s.ndd.ce := rfl
@[simp] theorem State.endWith_ndd_idx (r : Res) (c : Cause) : (s.endWith r c).ndd.idx = s.ndd.idx := rfl
@[simp] theorem State.endWith_ndd_tlvT (r : Res) (c : Cause) : (s.endWith r c).ndd.tlvT = s.ndd.tlvT := rfl
@[simp] theorem State.endWith_ndd_tlvL (r : Res) (c : Cause) : (s.endWith r c).ndd.tlvL = s.ndd.tlvL := rfl
@[simp] theorem State.endWith_ndd_msgend (r : Res) (c : Cause) : (s.endWith r c).ndd.msgend = s.ndd.msgend := rfl
@[simp] theorem State.endWith_ndd_hdr (r : Res) (c : Cause) : (s.endWith r c).ndd.hdr = s.ndd.hdr := rfl
@[simp] theorem State.endWith_ndd_typelen (r : Res) (c : Cause) : (s.endWith r c).ndd.typelen = s.ndd.typelen := rfl
@[simp] theorem State.endWith_ndd_paylen (r : Res) (c : Cause) : (s.endWith r c).ndd.paylen = s.ndd.paylen := rfl
@[simp] theorem State.endWith_ndd_ridlen (r : Res) (c : Cause) : (s.endWith r c).ndd.ridlen = s.ndd.ridlen := rfl
@[simp] theorem State.endWith_ndd_langlen (r : Res) (c : Cause) : (s.endWith r c).ndd.langlen = s.ndd.langlen := rfl
@[simp] theorem State.endWith_ndd_body (r : Res) (c : Cause) : (s.endWith r c).ndd.body = s.ndd.body := rfl
@[simp] theorem State.endWith_ndd_txtOff (r : Res) (c : Cause) : (s.endWith r c).ndd.txtOff = s.ndd.txtOff := rfl
@[simp] theorem State.endWith_ndd_txtLen (r : Res) (c : Cause) : (s.endWith r c).ndd.txtLen = s.ndd.txtLen := rfl
@[simp] theorem State.endWith_ndd_dst (r : Res) (c : Cause) : (s.endWith r c).ndd.dst = .idle := rfl
@[simp] theorem State.endWith_ndd_inBody (r : Res) (c : Cause) : (s.endWith r c).ndd.inBody = s.ndd.inBody := rfl
@[simp] theorem State.endWith_env (r : Res) (c : Cause) : (s.endWith r c).env = s.env := rfl

/-! ## `beginTries`: the start of the attempts (R133 to R136) -/

@[simp] theorem State.beginTries_par (page : Byte) : (s.beginTries page).par = s.par := rfl
@[simp] theorem State.beginTries_hif (page : Byte) : (s.beginTries page).hif = s.hif := rfl
@[simp] theorem State.beginTries_tpd_attempts (page : Byte) : (s.beginTries page).tpd.attempts = 0 := rfl
@[simp] theorem State.beginTries_tpd_page (page : Byte) : (s.beginTries page).tpd.page = s.tpd.page := rfl
@[simp] theorem State.beginTries_tpd_xbuf (page : Byte) : (s.beginTries page).tpd.xbuf = s.tpd.xbuf := rfl
@[simp] theorem State.beginTries_tpd_tagid (page : Byte) : (s.beginTries page).tpd.tagid = s.tpd.tagid := rfl
@[simp] theorem State.beginTries_tpd_idlen (page : Byte) : (s.beginTries page).tpd.idlen = s.tpd.idlen := rfl
@[simp] theorem State.beginTries_tpd_tagtype (page : Byte) : (s.beginTries page).tpd.tagtype = s.tpd.tagtype := rfl
@[simp] theorem State.beginTries_tpd_pdata (page : Byte) : (s.beginTries page).tpd.pdata = s.tpd.pdata := rfl
@[simp] theorem State.beginTries_tpd_plen (page : Byte) : (s.beginTries page).tpd.plen = s.tpd.plen := rfl
@[simp] theorem State.beginTries_tpd_tryNo (page : Byte) :
    (s.beginTries page).tpd.tryNo = if s.hif.retry then 1 else s.tpd.tryNo := rfl
@[simp] theorem State.beginTries_tpd_tst (page : Byte) : (s.beginTries page).tpd.tst = .build := rfl
@[simp] theorem State.beginTries_tpd_reqPage (page : Byte) : (s.beginTries page).tpd.reqPage = page := rfl
@[simp] theorem State.beginTries_tpd_stuck (page : Byte) : (s.beginTries page).tpd.stuck = s.tpd.stuck := rfl
@[simp] theorem State.beginTries_tb (page : Byte) : (s.beginTries page).tb = s.tb := rfl
@[simp] theorem State.beginTries_ndd (page : Byte) : (s.beginTries page).ndd = s.ndd := rfl
@[simp] theorem State.beginTries_env (page : Byte) : (s.beginTries page).env = s.env := rfl

/-! ## `tbPush`: the append of a byte (R62) -/

@[simp] theorem State.tbPush_par (b : Byte) : (s.tbPush b).par = s.par := rfl
@[simp] theorem State.tbPush_hif (b : Byte) : (s.tbPush b).hif = s.hif := rfl
@[simp] theorem State.tbPush_tpd (b : Byte) : (s.tbPush b).tpd = s.tpd := rfl
@[simp] theorem State.tbPush_tb_cells (b : Byte) :
    (s.tbPush b).tb.cells = Memory.write s.tb.cells s.tb.len.toNat b := rfl
@[simp] theorem State.tbPush_tb_len (b : Byte) : (s.tbPush b).tb.len = s.tb.len + 1 := rfl
@[simp] theorem State.tbPush_ndd (b : Byte) : (s.tbPush b).ndd = s.ndd := rfl
@[simp] theorem State.tbPush_env (b : Byte) : (s.tbPush b).env = s.env := rfl

/-! ## `tbClear`: the emptied TagBuffer (R162) -/

@[simp] theorem State.tbClear_par : (s.tbClear).par = s.par := rfl
@[simp] theorem State.tbClear_hif : (s.tbClear).hif = s.hif := rfl
@[simp] theorem State.tbClear_tpd : (s.tbClear).tpd = s.tpd := rfl
@[simp] theorem State.tbClear_tb_cells : (s.tbClear).tb.cells = [] := rfl
@[simp] theorem State.tbClear_tb_len : (s.tbClear).tb.len = 0 := rfl
@[simp] theorem State.tbClear_ndd : (s.tbClear).ndd = s.ndd := rfl
@[simp] theorem State.tbClear_env : (s.tbClear).env = s.env := rfl

/-! ## `setIdx`: the cursor (R35) -/

@[simp] theorem State.setIdx_par (n : Nat) : (s.setIdx n).par = s.par := rfl
@[simp] theorem State.setIdx_hif (n : Nat) : (s.setIdx n).hif = s.hif := rfl
@[simp] theorem State.setIdx_tpd (n : Nat) : (s.setIdx n).tpd = s.tpd := rfl
@[simp] theorem State.setIdx_tb (n : Nat) : (s.setIdx n).tb = s.tb := rfl
@[simp] theorem State.setIdx_ndd_ce (n : Nat) : (s.setIdx n).ndd.ce = s.ndd.ce := rfl
@[simp] theorem State.setIdx_ndd_idx (n : Nat) : (s.setIdx n).ndd.idx = BitVec.ofNat 16 n := rfl
@[simp] theorem State.setIdx_ndd_tlvT (n : Nat) : (s.setIdx n).ndd.tlvT = s.ndd.tlvT := rfl
@[simp] theorem State.setIdx_ndd_tlvL (n : Nat) : (s.setIdx n).ndd.tlvL = s.ndd.tlvL := rfl
@[simp] theorem State.setIdx_ndd_msgend (n : Nat) : (s.setIdx n).ndd.msgend = s.ndd.msgend := rfl
@[simp] theorem State.setIdx_ndd_hdr (n : Nat) : (s.setIdx n).ndd.hdr = s.ndd.hdr := rfl
@[simp] theorem State.setIdx_ndd_typelen (n : Nat) : (s.setIdx n).ndd.typelen = s.ndd.typelen := rfl
@[simp] theorem State.setIdx_ndd_paylen (n : Nat) : (s.setIdx n).ndd.paylen = s.ndd.paylen := rfl
@[simp] theorem State.setIdx_ndd_ridlen (n : Nat) : (s.setIdx n).ndd.ridlen = s.ndd.ridlen := rfl
@[simp] theorem State.setIdx_ndd_langlen (n : Nat) : (s.setIdx n).ndd.langlen = s.ndd.langlen := rfl
@[simp] theorem State.setIdx_ndd_body (n : Nat) : (s.setIdx n).ndd.body = s.ndd.body := rfl
@[simp] theorem State.setIdx_ndd_txtOff (n : Nat) : (s.setIdx n).ndd.txtOff = s.ndd.txtOff := rfl
@[simp] theorem State.setIdx_ndd_txtLen (n : Nat) : (s.setIdx n).ndd.txtLen = s.ndd.txtLen := rfl
@[simp] theorem State.setIdx_ndd_dst (n : Nat) : (s.setIdx n).ndd.dst = s.ndd.dst := rfl
@[simp] theorem State.setIdx_ndd_inBody (n : Nat) : (s.setIdx n).ndd.inBody = s.ndd.inBody := rfl
@[simp] theorem State.setIdx_env (n : Nat) : (s.setIdx n).env = s.env := rfl

/-! ## `skip`: the clamped skip (R80) -/

@[simp] theorem State.skip_par (n : Nat) : (s.skip n).par = s.par := rfl
@[simp] theorem State.skip_hif (n : Nat) : (s.skip n).hif = s.hif := rfl
@[simp] theorem State.skip_tpd (n : Nat) : (s.skip n).tpd = s.tpd := rfl
@[simp] theorem State.skip_tb (n : Nat) : (s.skip n).tb = s.tb := rfl
@[simp] theorem State.skip_ndd_ce (n : Nat) : (s.skip n).ndd.ce = s.ndd.ce := rfl
@[simp] theorem State.skip_ndd_idx (n : Nat) : (s.skip n).ndd.idx = BitVec.ofNat 16 (min n s.ndd.ce.toNat) := rfl
@[simp] theorem State.skip_ndd_tlvT (n : Nat) : (s.skip n).ndd.tlvT = s.ndd.tlvT := rfl
@[simp] theorem State.skip_ndd_tlvL (n : Nat) : (s.skip n).ndd.tlvL = s.ndd.tlvL := rfl
@[simp] theorem State.skip_ndd_msgend (n : Nat) : (s.skip n).ndd.msgend = s.ndd.msgend := rfl
@[simp] theorem State.skip_ndd_hdr (n : Nat) : (s.skip n).ndd.hdr = s.ndd.hdr := rfl
@[simp] theorem State.skip_ndd_typelen (n : Nat) : (s.skip n).ndd.typelen = s.ndd.typelen := rfl
@[simp] theorem State.skip_ndd_paylen (n : Nat) : (s.skip n).ndd.paylen = s.ndd.paylen := rfl
@[simp] theorem State.skip_ndd_ridlen (n : Nat) : (s.skip n).ndd.ridlen = s.ndd.ridlen := rfl
@[simp] theorem State.skip_ndd_langlen (n : Nat) : (s.skip n).ndd.langlen = s.ndd.langlen := rfl
@[simp] theorem State.skip_ndd_body (n : Nat) : (s.skip n).ndd.body = s.ndd.body := rfl
@[simp] theorem State.skip_ndd_txtOff (n : Nat) : (s.skip n).ndd.txtOff = s.ndd.txtOff := rfl
@[simp] theorem State.skip_ndd_txtLen (n : Nat) : (s.skip n).ndd.txtLen = s.ndd.txtLen := rfl
@[simp] theorem State.skip_ndd_dst (n : Nat) : (s.skip n).ndd.dst = s.ndd.dst := rfl
@[simp] theorem State.skip_ndd_inBody (n : Nat) : (s.skip n).ndd.inBody = s.ndd.inBody := rfl
@[simp] theorem State.skip_env (n : Nat) : (s.skip n).env = s.env := rfl

/-! ## `raiseDecode`: the end of a scan without a text (R175) -/

@[simp] theorem State.raiseDecode_par (c : Cause) : (s.raiseDecode c).par = s.par := rfl
@[simp] theorem State.raiseDecode_hif_op (c : Cause) : (s.raiseDecode c).hif.op = s.hif.op := rfl
@[simp] theorem State.raiseDecode_hif_arg (c : Cause) : (s.raiseDecode c).hif.arg = s.hif.arg := rfl
@[simp] theorem State.raiseDecode_hif_busy (c : Cause) : (s.raiseDecode c).hif.busy = s.hif.busy := rfl
@[simp] theorem State.raiseDecode_hif_done (c : Cause) : (s.raiseDecode c).hif.done = s.hif.done := rfl
@[simp] theorem State.raiseDecode_hif_badtxt (c : Cause) : (s.raiseDecode c).hif.badtxt = s.hif.badtxt := rfl
@[simp] theorem State.raiseDecode_hif_ovr (c : Cause) : (s.raiseDecode c).hif.ovr = s.hif.ovr := rfl
@[simp] theorem State.raiseDecode_hif_res (c : Cause) : (s.raiseDecode c).hif.res = .notFound := rfl
@[simp] theorem State.raiseDecode_hif_cause (c : Cause) : (s.raiseDecode c).hif.cause = c := rfl
@[simp] theorem State.raiseDecode_hif_tba (c : Cause) : (s.raiseDecode c).hif.tba = s.hif.tba := rfl
@[simp] theorem State.raiseDecode_tpd (c : Cause) : (s.raiseDecode c).tpd = s.tpd := rfl
@[simp] theorem State.raiseDecode_tb (c : Cause) : (s.raiseDecode c).tb = s.tb := rfl
@[simp] theorem State.raiseDecode_ndd_ce (c : Cause) : (s.raiseDecode c).ndd.ce = s.ndd.ce := rfl
@[simp] theorem State.raiseDecode_ndd_idx (c : Cause) : (s.raiseDecode c).ndd.idx = s.ndd.idx := rfl
@[simp] theorem State.raiseDecode_ndd_tlvT (c : Cause) : (s.raiseDecode c).ndd.tlvT = s.ndd.tlvT := rfl
@[simp] theorem State.raiseDecode_ndd_tlvL (c : Cause) : (s.raiseDecode c).ndd.tlvL = s.ndd.tlvL := rfl
@[simp] theorem State.raiseDecode_ndd_msgend (c : Cause) : (s.raiseDecode c).ndd.msgend = s.ndd.msgend := rfl
@[simp] theorem State.raiseDecode_ndd_hdr (c : Cause) : (s.raiseDecode c).ndd.hdr = s.ndd.hdr := rfl
@[simp] theorem State.raiseDecode_ndd_typelen (c : Cause) : (s.raiseDecode c).ndd.typelen = s.ndd.typelen := rfl
@[simp] theorem State.raiseDecode_ndd_paylen (c : Cause) : (s.raiseDecode c).ndd.paylen = s.ndd.paylen := rfl
@[simp] theorem State.raiseDecode_ndd_ridlen (c : Cause) : (s.raiseDecode c).ndd.ridlen = s.ndd.ridlen := rfl
@[simp] theorem State.raiseDecode_ndd_langlen (c : Cause) : (s.raiseDecode c).ndd.langlen = s.ndd.langlen := rfl
@[simp] theorem State.raiseDecode_ndd_body (c : Cause) : (s.raiseDecode c).ndd.body = s.ndd.body := rfl
@[simp] theorem State.raiseDecode_ndd_txtOff (c : Cause) : (s.raiseDecode c).ndd.txtOff = 0 := rfl
@[simp] theorem State.raiseDecode_ndd_txtLen (c : Cause) : (s.raiseDecode c).ndd.txtLen = 0 := rfl
@[simp] theorem State.raiseDecode_ndd_dst (c : Cause) : (s.raiseDecode c).ndd.dst = .done := rfl
@[simp] theorem State.raiseDecode_ndd_inBody (c : Cause) : (s.raiseDecode c).ndd.inBody = s.ndd.inBody := rfl
@[simp] theorem State.raiseDecode_env (c : Cause) : (s.raiseDecode c).env = s.env := rfl

/-! ## `exhaust`: `BufferExhaustion` (R225) -/

@[simp] theorem State.exhaust_par : (s.exhaust).par = s.par := rfl
@[simp] theorem State.exhaust_hif_op : (s.exhaust).hif.op = s.hif.op := rfl
@[simp] theorem State.exhaust_hif_arg : (s.exhaust).hif.arg = s.hif.arg := rfl
@[simp] theorem State.exhaust_hif_busy : (s.exhaust).hif.busy = s.hif.busy := rfl
@[simp] theorem State.exhaust_hif_done : (s.exhaust).hif.done = s.hif.done := rfl
@[simp] theorem State.exhaust_hif_badtxt : (s.exhaust).hif.badtxt = s.hif.badtxt := rfl
@[simp] theorem State.exhaust_hif_ovr : (s.exhaust).hif.ovr = s.hif.ovr := rfl
@[simp] theorem State.exhaust_hif_res : (s.exhaust).hif.res = .notFound := rfl
@[simp] theorem State.exhaust_hif_cause : (s.exhaust).hif.cause = .truncated := rfl
@[simp] theorem State.exhaust_hif_tba : (s.exhaust).hif.tba = s.hif.tba := rfl
@[simp] theorem State.exhaust_tpd : (s.exhaust).tpd = s.tpd := rfl
@[simp] theorem State.exhaust_tb : (s.exhaust).tb = s.tb := rfl
@[simp] theorem State.exhaust_ndd_ce : (s.exhaust).ndd.ce = s.ndd.ce := rfl
@[simp] theorem State.exhaust_ndd_idx : (s.exhaust).ndd.idx = BitVec.ofNat 16 s.ndd.ce.toNat := rfl
@[simp] theorem State.exhaust_ndd_tlvT : (s.exhaust).ndd.tlvT = s.ndd.tlvT := rfl
@[simp] theorem State.exhaust_ndd_tlvL : (s.exhaust).ndd.tlvL = s.ndd.tlvL := rfl
@[simp] theorem State.exhaust_ndd_msgend : (s.exhaust).ndd.msgend = s.ndd.msgend := rfl
@[simp] theorem State.exhaust_ndd_hdr : (s.exhaust).ndd.hdr = s.ndd.hdr := rfl
@[simp] theorem State.exhaust_ndd_typelen : (s.exhaust).ndd.typelen = s.ndd.typelen := rfl
@[simp] theorem State.exhaust_ndd_paylen : (s.exhaust).ndd.paylen = s.ndd.paylen := rfl
@[simp] theorem State.exhaust_ndd_ridlen : (s.exhaust).ndd.ridlen = s.ndd.ridlen := rfl
@[simp] theorem State.exhaust_ndd_langlen : (s.exhaust).ndd.langlen = s.ndd.langlen := rfl
@[simp] theorem State.exhaust_ndd_body : (s.exhaust).ndd.body = s.ndd.body := rfl
@[simp] theorem State.exhaust_ndd_txtOff : (s.exhaust).ndd.txtOff = 0 := rfl
@[simp] theorem State.exhaust_ndd_txtLen : (s.exhaust).ndd.txtLen = 0 := rfl
@[simp] theorem State.exhaust_ndd_dst : (s.exhaust).ndd.dst = .done := rfl
@[simp] theorem State.exhaust_ndd_inBody : (s.exhaust).ndd.inBody = s.ndd.inBody := rfl
@[simp] theorem State.exhaust_env : (s.exhaust).env = s.env := rfl

/-! ## `raiseFound`: `Found` (R198) -/

@[simp] theorem State.raiseFound_par (a n : Nat) : (s.raiseFound a n).par = s.par := rfl
@[simp] theorem State.raiseFound_hif_op (a n : Nat) : (s.raiseFound a n).hif.op = s.hif.op := rfl
@[simp] theorem State.raiseFound_hif_arg (a n : Nat) : (s.raiseFound a n).hif.arg = s.hif.arg := rfl
@[simp] theorem State.raiseFound_hif_busy (a n : Nat) : (s.raiseFound a n).hif.busy = s.hif.busy := rfl
@[simp] theorem State.raiseFound_hif_done (a n : Nat) : (s.raiseFound a n).hif.done = s.hif.done := rfl
@[simp] theorem State.raiseFound_hif_badtxt (a n : Nat) : (s.raiseFound a n).hif.badtxt = s.hif.badtxt := rfl
@[simp] theorem State.raiseFound_hif_ovr (a n : Nat) : (s.raiseFound a n).hif.ovr = s.hif.ovr := rfl
@[simp] theorem State.raiseFound_hif_res (a n : Nat) : (s.raiseFound a n).hif.res = .found := rfl
@[simp] theorem State.raiseFound_hif_cause (a n : Nat) : (s.raiseFound a n).hif.cause = .none := rfl
@[simp] theorem State.raiseFound_hif_tba (a n : Nat) : (s.raiseFound a n).hif.tba = s.hif.tba := rfl
@[simp] theorem State.raiseFound_tpd (a n : Nat) : (s.raiseFound a n).tpd = s.tpd := rfl
@[simp] theorem State.raiseFound_tb (a n : Nat) : (s.raiseFound a n).tb = s.tb := rfl
@[simp] theorem State.raiseFound_ndd_ce (a n : Nat) : (s.raiseFound a n).ndd.ce = s.ndd.ce := rfl
@[simp] theorem State.raiseFound_ndd_idx (a n : Nat) : (s.raiseFound a n).ndd.idx = BitVec.ofNat 16 (a + n) := rfl
@[simp] theorem State.raiseFound_ndd_tlvT (a n : Nat) : (s.raiseFound a n).ndd.tlvT = s.ndd.tlvT := rfl
@[simp] theorem State.raiseFound_ndd_tlvL (a n : Nat) : (s.raiseFound a n).ndd.tlvL = s.ndd.tlvL := rfl
@[simp] theorem State.raiseFound_ndd_msgend (a n : Nat) : (s.raiseFound a n).ndd.msgend = s.ndd.msgend := rfl
@[simp] theorem State.raiseFound_ndd_hdr (a n : Nat) : (s.raiseFound a n).ndd.hdr = s.ndd.hdr := rfl
@[simp] theorem State.raiseFound_ndd_typelen (a n : Nat) : (s.raiseFound a n).ndd.typelen = s.ndd.typelen := rfl
@[simp] theorem State.raiseFound_ndd_paylen (a n : Nat) : (s.raiseFound a n).ndd.paylen = s.ndd.paylen := rfl
@[simp] theorem State.raiseFound_ndd_ridlen (a n : Nat) : (s.raiseFound a n).ndd.ridlen = s.ndd.ridlen := rfl
@[simp] theorem State.raiseFound_ndd_langlen (a n : Nat) : (s.raiseFound a n).ndd.langlen = s.ndd.langlen := rfl
@[simp] theorem State.raiseFound_ndd_body (a n : Nat) : (s.raiseFound a n).ndd.body = s.ndd.body := rfl
@[simp] theorem State.raiseFound_ndd_txtOff (a n : Nat) : (s.raiseFound a n).ndd.txtOff = BitVec.ofNat 16 a := rfl
@[simp] theorem State.raiseFound_ndd_txtLen (a n : Nat) : (s.raiseFound a n).ndd.txtLen = BitVec.ofNat 16 n := rfl
@[simp] theorem State.raiseFound_ndd_dst (a n : Nat) : (s.raiseFound a n).ndd.dst = .done := rfl
@[simp] theorem State.raiseFound_ndd_inBody (a n : Nat) : (s.raiseFound a n).ndd.inBody = s.ndd.inBody := rfl
@[simp] theorem State.raiseFound_env (a n : Nat) : (s.raiseFound a n).env = s.env := rfl

/-! ## `readType`: `ReadType` (R176) -/

@[simp] theorem State.readType_par (t : Byte) (d : Dst) : (s.readType t d).par = s.par := rfl
@[simp] theorem State.readType_hif (t : Byte) (d : Dst) : (s.readType t d).hif = s.hif := rfl
@[simp] theorem State.readType_tpd (t : Byte) (d : Dst) : (s.readType t d).tpd = s.tpd := rfl
@[simp] theorem State.readType_tb (t : Byte) (d : Dst) : (s.readType t d).tb = s.tb := rfl
@[simp] theorem State.readType_ndd_ce (t : Byte) (d : Dst) : (s.readType t d).ndd.ce = s.ndd.ce := rfl
@[simp] theorem State.readType_ndd_idx (t : Byte) (d : Dst) : (s.readType t d).ndd.idx = s.ndd.idx + 1 := rfl
@[simp] theorem State.readType_ndd_tlvT (t : Byte) (d : Dst) : (s.readType t d).ndd.tlvT = t := rfl
@[simp] theorem State.readType_ndd_tlvL (t : Byte) (d : Dst) : (s.readType t d).ndd.tlvL = s.ndd.tlvL := rfl
@[simp] theorem State.readType_ndd_msgend (t : Byte) (d : Dst) : (s.readType t d).ndd.msgend = s.ndd.msgend := rfl
@[simp] theorem State.readType_ndd_hdr (t : Byte) (d : Dst) : (s.readType t d).ndd.hdr = s.ndd.hdr := rfl
@[simp] theorem State.readType_ndd_typelen (t : Byte) (d : Dst) : (s.readType t d).ndd.typelen = s.ndd.typelen := rfl
@[simp] theorem State.readType_ndd_paylen (t : Byte) (d : Dst) : (s.readType t d).ndd.paylen = s.ndd.paylen := rfl
@[simp] theorem State.readType_ndd_ridlen (t : Byte) (d : Dst) : (s.readType t d).ndd.ridlen = s.ndd.ridlen := rfl
@[simp] theorem State.readType_ndd_langlen (t : Byte) (d : Dst) : (s.readType t d).ndd.langlen = s.ndd.langlen := rfl
@[simp] theorem State.readType_ndd_body (t : Byte) (d : Dst) : (s.readType t d).ndd.body = s.ndd.body := rfl
@[simp] theorem State.readType_ndd_txtOff (t : Byte) (d : Dst) : (s.readType t d).ndd.txtOff = s.ndd.txtOff := rfl
@[simp] theorem State.readType_ndd_txtLen (t : Byte) (d : Dst) : (s.readType t d).ndd.txtLen = s.ndd.txtLen := rfl
@[simp] theorem State.readType_ndd_dst (t : Byte) (d : Dst) : (s.readType t d).ndd.dst = d := rfl
@[simp] theorem State.readType_ndd_inBody (t : Byte) (d : Dst) : (s.readType t d).ndd.inBody = s.ndd.inBody := rfl
@[simp] theorem State.readType_env (t : Byte) (d : Dst) : (s.readType t d).env = s.env := rfl

/-! ## `readLength`: `ReadLength` (R178, R179) -/

@[simp] theorem State.readLength_par (n : Nat) (l : Half) : (s.readLength n l).par = s.par := rfl
@[simp] theorem State.readLength_hif (n : Nat) (l : Half) : (s.readLength n l).hif = s.hif := rfl
@[simp] theorem State.readLength_tpd (n : Nat) (l : Half) : (s.readLength n l).tpd = s.tpd := rfl
@[simp] theorem State.readLength_tb (n : Nat) (l : Half) : (s.readLength n l).tb = s.tb := rfl
@[simp] theorem State.readLength_ndd_ce (n : Nat) (l : Half) : (s.readLength n l).ndd.ce = s.ndd.ce := rfl
@[simp] theorem State.readLength_ndd_idx (n : Nat) (l : Half) :
    (s.readLength n l).ndd.idx = BitVec.ofNat 16 (s.ndd.idx.toNat + n) := rfl
@[simp] theorem State.readLength_ndd_tlvT (n : Nat) (l : Half) : (s.readLength n l).ndd.tlvT = s.ndd.tlvT := rfl
@[simp] theorem State.readLength_ndd_tlvL (n : Nat) (l : Half) : (s.readLength n l).ndd.tlvL = l := rfl
@[simp] theorem State.readLength_ndd_msgend (n : Nat) (l : Half) :
    (s.readLength n l).ndd.msgend = BitVec.ofNat 17 (s.ndd.idx.toNat + n + l.toNat) := rfl
@[simp] theorem State.readLength_ndd_hdr (n : Nat) (l : Half) : (s.readLength n l).ndd.hdr = s.ndd.hdr := rfl
@[simp] theorem State.readLength_ndd_typelen (n : Nat) (l : Half) :
    (s.readLength n l).ndd.typelen = s.ndd.typelen := rfl
@[simp] theorem State.readLength_ndd_paylen (n : Nat) (l : Half) : (s.readLength n l).ndd.paylen = s.ndd.paylen := rfl
@[simp] theorem State.readLength_ndd_ridlen (n : Nat) (l : Half) : (s.readLength n l).ndd.ridlen = s.ndd.ridlen := rfl
@[simp] theorem State.readLength_ndd_langlen (n : Nat) (l : Half) :
    (s.readLength n l).ndd.langlen = s.ndd.langlen := rfl
@[simp] theorem State.readLength_ndd_body (n : Nat) (l : Half) : (s.readLength n l).ndd.body = s.ndd.body := rfl
@[simp] theorem State.readLength_ndd_txtOff (n : Nat) (l : Half) : (s.readLength n l).ndd.txtOff = s.ndd.txtOff := rfl
@[simp] theorem State.readLength_ndd_txtLen (n : Nat) (l : Half) : (s.readLength n l).ndd.txtLen = s.ndd.txtLen := rfl
@[simp] theorem State.readLength_ndd_dst (n : Nat) (l : Half) : (s.readLength n l).ndd.dst = .dispatch := rfl
@[simp] theorem State.readLength_ndd_inBody (n : Nat) (l : Half) : (s.readLength n l).ndd.inBody = s.ndd.inBody := rfl
@[simp] theorem State.readLength_env (n : Nat) (l : Half) : (s.readLength n l).env = s.env := rfl

/-! ## `readHeader`: `ReadRecordHeader` (R196) -/

@[simp] theorem State.readHeader_par (n : Nat) (h tl : Byte) (p : BitVec 32) (i : Byte) :
    (s.readHeader n h tl p i).par = s.par := rfl
@[simp] theorem State.readHeader_hif (n : Nat) (h tl : Byte) (p : BitVec 32) (i : Byte) :
    (s.readHeader n h tl p i).hif = s.hif := rfl
@[simp] theorem State.readHeader_tpd (n : Nat) (h tl : Byte) (p : BitVec 32) (i : Byte) :
    (s.readHeader n h tl p i).tpd = s.tpd := rfl
@[simp] theorem State.readHeader_tb (n : Nat) (h tl : Byte) (p : BitVec 32) (i : Byte) :
    (s.readHeader n h tl p i).tb = s.tb := rfl
@[simp] theorem State.readHeader_ndd_ce (n : Nat) (h tl : Byte) (p : BitVec 32) (i : Byte) :
    (s.readHeader n h tl p i).ndd.ce = s.ndd.ce := rfl
@[simp] theorem State.readHeader_ndd_idx (n : Nat) (h tl : Byte) (p : BitVec 32) (i : Byte) :
    (s.readHeader n h tl p i).ndd.idx = BitVec.ofNat 16 (s.ndd.idx.toNat + n) := rfl
@[simp] theorem State.readHeader_ndd_tlvT (n : Nat) (h tl : Byte) (p : BitVec 32) (i : Byte) :
    (s.readHeader n h tl p i).ndd.tlvT = s.ndd.tlvT := rfl
@[simp] theorem State.readHeader_ndd_tlvL (n : Nat) (h tl : Byte) (p : BitVec 32) (i : Byte) :
    (s.readHeader n h tl p i).ndd.tlvL = s.ndd.tlvL := rfl
@[simp] theorem State.readHeader_ndd_msgend (n : Nat) (h tl : Byte) (p : BitVec 32) (i : Byte) :
    (s.readHeader n h tl p i).ndd.msgend = s.ndd.msgend := rfl
@[simp] theorem State.readHeader_ndd_hdr (n : Nat) (h tl : Byte) (p : BitVec 32) (i : Byte) :
    (s.readHeader n h tl p i).ndd.hdr = h := rfl
@[simp] theorem State.readHeader_ndd_typelen (n : Nat) (h tl : Byte) (p : BitVec 32) (i : Byte) :
    (s.readHeader n h tl p i).ndd.typelen = tl := rfl
@[simp] theorem State.readHeader_ndd_paylen (n : Nat) (h tl : Byte) (p : BitVec 32) (i : Byte) :
    (s.readHeader n h tl p i).ndd.paylen = p := rfl
@[simp] theorem State.readHeader_ndd_ridlen (n : Nat) (h tl : Byte) (p : BitVec 32) (i : Byte) :
    (s.readHeader n h tl p i).ndd.ridlen = i := rfl
@[simp] theorem State.readHeader_ndd_langlen (n : Nat) (h tl : Byte) (p : BitVec 32) (i : Byte) :
    (s.readHeader n h tl p i).ndd.langlen = s.ndd.langlen := rfl
@[simp] theorem State.readHeader_ndd_body (n : Nat) (h tl : Byte) (p : BitVec 32) (i : Byte) :
    (s.readHeader n h tl p i).ndd.body = BitVec.ofNat 16 (s.ndd.idx.toNat + n) := rfl
@[simp] theorem State.readHeader_ndd_txtOff (n : Nat) (h tl : Byte) (p : BitVec 32) (i : Byte) :
    (s.readHeader n h tl p i).ndd.txtOff = s.ndd.txtOff := rfl
@[simp] theorem State.readHeader_ndd_txtLen (n : Nat) (h tl : Byte) (p : BitVec 32) (i : Byte) :
    (s.readHeader n h tl p i).ndd.txtLen = s.ndd.txtLen := rfl
@[simp] theorem State.readHeader_ndd_dst (n : Nat) (h tl : Byte) (p : BitVec 32) (i : Byte) :
    (s.readHeader n h tl p i).ndd.dst = .record := rfl
@[simp] theorem State.readHeader_ndd_inBody (n : Nat) (h tl : Byte) (p : BitVec 32) (i : Byte) :
    (s.readHeader n h tl p i).ndd.inBody = true := rfl
@[simp] theorem State.readHeader_env (n : Nat) (h tl : Byte) (p : BitVec 32) (i : Byte) :
    (s.readHeader n h tl p i).env = s.env := rfl

/-! ## `passRecord`: a record passed over (R200, R201) -/

@[simp] theorem State.passRecord_par : (s.passRecord).par = s.par := rfl
@[simp] theorem State.passRecord_hif : (s.passRecord).hif = s.hif := rfl
@[simp] theorem State.passRecord_tpd : (s.passRecord).tpd = s.tpd := rfl
@[simp] theorem State.passRecord_tb : (s.passRecord).tb = s.tb := rfl
@[simp] theorem State.passRecord_ndd_ce : (s.passRecord).ndd.ce = s.ndd.ce := rfl
@[simp] theorem State.passRecord_ndd_idx :
    (s.passRecord).ndd.idx = BitVec.ofNat 16 (min s.recordEnd s.ndd.ce.toNat) := rfl
@[simp] theorem State.passRecord_ndd_tlvT : (s.passRecord).ndd.tlvT = s.ndd.tlvT := rfl
@[simp] theorem State.passRecord_ndd_tlvL : (s.passRecord).ndd.tlvL = s.ndd.tlvL := rfl
@[simp] theorem State.passRecord_ndd_msgend : (s.passRecord).ndd.msgend = s.ndd.msgend := rfl
@[simp] theorem State.passRecord_ndd_hdr : (s.passRecord).ndd.hdr = s.ndd.hdr := rfl
@[simp] theorem State.passRecord_ndd_typelen : (s.passRecord).ndd.typelen = s.ndd.typelen := rfl
@[simp] theorem State.passRecord_ndd_paylen : (s.passRecord).ndd.paylen = s.ndd.paylen := rfl
@[simp] theorem State.passRecord_ndd_ridlen : (s.passRecord).ndd.ridlen = s.ndd.ridlen := rfl
@[simp] theorem State.passRecord_ndd_langlen : (s.passRecord).ndd.langlen = s.ndd.langlen := rfl
@[simp] theorem State.passRecord_ndd_body : (s.passRecord).ndd.body = s.ndd.body := rfl
@[simp] theorem State.passRecord_ndd_txtOff : (s.passRecord).ndd.txtOff = s.ndd.txtOff := rfl
@[simp] theorem State.passRecord_ndd_txtLen : (s.passRecord).ndd.txtLen = s.ndd.txtLen := rfl
@[simp] theorem State.passRecord_ndd_dst :
    (s.passRecord).ndd.dst = if hdrME s.ndd.hdr then .readType else .record := rfl
@[simp] theorem State.passRecord_ndd_inBody : (s.passRecord).ndd.inBody = false := rfl
@[simp] theorem State.passRecord_env : (s.passRecord).env = s.env := rfl

/-! ## `rejectRecord`: a record rejected (R199) -/

@[simp] theorem State.rejectRecord_par : (s.rejectRecord).par = s.par := rfl
@[simp] theorem State.rejectRecord_hif_op : (s.rejectRecord).hif.op = s.hif.op := rfl
@[simp] theorem State.rejectRecord_hif_arg : (s.rejectRecord).hif.arg = s.hif.arg := rfl
@[simp] theorem State.rejectRecord_hif_busy : (s.rejectRecord).hif.busy = s.hif.busy := rfl
@[simp] theorem State.rejectRecord_hif_done : (s.rejectRecord).hif.done = s.hif.done := rfl
@[simp] theorem State.rejectRecord_hif_badtxt : (s.rejectRecord).hif.badtxt = true := rfl
@[simp] theorem State.rejectRecord_hif_ovr : (s.rejectRecord).hif.ovr = s.hif.ovr := rfl
@[simp] theorem State.rejectRecord_hif_res : (s.rejectRecord).hif.res = s.hif.res := rfl
@[simp] theorem State.rejectRecord_hif_cause : (s.rejectRecord).hif.cause = s.hif.cause := rfl
@[simp] theorem State.rejectRecord_hif_tba : (s.rejectRecord).hif.tba = s.hif.tba := rfl
@[simp] theorem State.rejectRecord_tpd : (s.rejectRecord).tpd = s.tpd := rfl
@[simp] theorem State.rejectRecord_tb : (s.rejectRecord).tb = s.tb := rfl
@[simp] theorem State.rejectRecord_ndd_ce : (s.rejectRecord).ndd.ce = s.ndd.ce := rfl
@[simp] theorem State.rejectRecord_ndd_idx :
    (s.rejectRecord).ndd.idx = BitVec.ofNat 16 (min s.recordEnd s.ndd.ce.toNat) := rfl
@[simp] theorem State.rejectRecord_ndd_tlvT : (s.rejectRecord).ndd.tlvT = s.ndd.tlvT := rfl
@[simp] theorem State.rejectRecord_ndd_tlvL : (s.rejectRecord).ndd.tlvL = s.ndd.tlvL := rfl
@[simp] theorem State.rejectRecord_ndd_msgend : (s.rejectRecord).ndd.msgend = s.ndd.msgend := rfl
@[simp] theorem State.rejectRecord_ndd_hdr : (s.rejectRecord).ndd.hdr = s.ndd.hdr := rfl
@[simp] theorem State.rejectRecord_ndd_typelen : (s.rejectRecord).ndd.typelen = s.ndd.typelen := rfl
@[simp] theorem State.rejectRecord_ndd_paylen : (s.rejectRecord).ndd.paylen = s.ndd.paylen := rfl
@[simp] theorem State.rejectRecord_ndd_ridlen : (s.rejectRecord).ndd.ridlen = s.ndd.ridlen := rfl
@[simp] theorem State.rejectRecord_ndd_langlen : (s.rejectRecord).ndd.langlen = s.ndd.langlen := rfl
@[simp] theorem State.rejectRecord_ndd_body : (s.rejectRecord).ndd.body = s.ndd.body := rfl
@[simp] theorem State.rejectRecord_ndd_txtOff : (s.rejectRecord).ndd.txtOff = s.ndd.txtOff := rfl
@[simp] theorem State.rejectRecord_ndd_txtLen : (s.rejectRecord).ndd.txtLen = s.ndd.txtLen := rfl
@[simp] theorem State.rejectRecord_ndd_dst :
    (s.rejectRecord).ndd.dst = if hdrME s.ndd.hdr then .readType else .record := rfl
@[simp] theorem State.rejectRecord_ndd_inBody : (s.rejectRecord).ndd.inBody = false := rfl
@[simp] theorem State.rejectRecord_env : (s.rejectRecord).env = s.env := rfl

/-! ## `logRead`: a host read (R41) -/

@[simp] theorem State.logRead_par (a v : Byte) : (s.logRead a v).par = s.par := rfl
@[simp] theorem State.logRead_hif (a v : Byte) : (s.logRead a v).hif = s.hif := rfl
@[simp] theorem State.logRead_tpd (a v : Byte) : (s.logRead a v).tpd = s.tpd := rfl
@[simp] theorem State.logRead_tb (a v : Byte) : (s.logRead a v).tb = s.tb := rfl
@[simp] theorem State.logRead_ndd (a v : Byte) : (s.logRead a v).ndd = s.ndd := rfl
@[simp] theorem State.logRead_env_rst (a v : Byte) : (s.logRead a v).env.rst = s.env.rst := rfl
@[simp] theorem State.logRead_env_script (a v : Byte) : (s.logRead a v).env.script = s.env.script := rfl
@[simp] theorem State.logRead_env_writes (a v : Byte) : (s.logRead a v).env.writes = s.env.writes := rfl
@[simp] theorem State.logRead_env_reads (a v : Byte) : (s.logRead a v).env.reads = s.env.reads := rfl
@[simp] theorem State.logRead_env_returns (a v : Byte) : (s.logRead a v).env.returns = s.env.returns := rfl
@[simp] theorem State.logRead_env_hist (a v : Byte) : (s.logRead a v).env.hist = s.env.hist := rfl
@[simp] theorem State.logRead_env_hostReads (a v : Byte) :
    (s.logRead a v).env.hostReads = s.env.hostReads ++ [(a, v)] := rfl
@[simp] theorem State.logRead_env_draws (a v : Byte) : (s.logRead a v).env.draws = s.env.draws := rfl

/-! ## `logFree`: a host read of a free value (U2, U3) -/

@[simp] theorem State.logFree_par (a m : Byte) : (s.logFree a m).par = s.par := rfl
@[simp] theorem State.logFree_hif (a m : Byte) : (s.logFree a m).hif = s.hif := rfl
@[simp] theorem State.logFree_tpd (a m : Byte) : (s.logFree a m).tpd = s.tpd := rfl
@[simp] theorem State.logFree_tb (a m : Byte) : (s.logFree a m).tb = s.tb := rfl
@[simp] theorem State.logFree_ndd (a m : Byte) : (s.logFree a m).ndd = s.ndd := rfl
@[simp] theorem State.logFree_env_rst (a m : Byte) : (s.logFree a m).env.rst = s.env.rst := rfl
@[simp] theorem State.logFree_env_script (a m : Byte) : (s.logFree a m).env.script = s.env.script := rfl
@[simp] theorem State.logFree_env_writes (a m : Byte) : (s.logFree a m).env.writes = s.env.writes := rfl
@[simp] theorem State.logFree_env_reads (a m : Byte) : (s.logFree a m).env.reads = s.env.reads := rfl
@[simp] theorem State.logFree_env_returns (a m : Byte) : (s.logFree a m).env.returns = s.env.returns := rfl
@[simp] theorem State.logFree_env_hist (a m : Byte) : (s.logFree a m).env.hist = s.env.hist := rfl
@[simp] theorem State.logFree_env_hostReads (a m : Byte) :
    (s.logFree a m).env.hostReads = s.env.hostReads ++ [(a, Config.freeByte s.env.draws &&& m)] := rfl
@[simp] theorem State.logFree_env_draws (a m : Byte) : (s.logFree a m).env.draws = s.env.draws + 1 := rfl

/-! ## `expand`: an expansion (R113) -/

@[simp] theorem State.expand_par (i : Instr) : (s.expand i).par = s.par := rfl
@[simp] theorem State.expand_hif (i : Instr) : (s.expand i).hif = s.hif := rfl
@[simp] theorem State.expand_tpd (i : Instr) : (s.expand i).tpd = s.tpd := rfl
@[simp] theorem State.expand_tb (i : Instr) : (s.expand i).tb = s.tb := rfl
@[simp] theorem State.expand_ndd (i : Instr) : (s.expand i).ndd = s.ndd := rfl
@[simp] theorem State.expand_env_rst (i : Instr) : (s.expand i).env.rst = s.env.rst := rfl
@[simp] theorem State.expand_env_script (i : Instr) :
    (s.expand i).env.script = (expansion i).map HostEvent.request ++ s.env.script := rfl
@[simp] theorem State.expand_env_writes (i : Instr) : (s.expand i).env.writes = s.env.writes := rfl
@[simp] theorem State.expand_env_reads (i : Instr) : (s.expand i).env.reads = s.env.reads := rfl
@[simp] theorem State.expand_env_returns (i : Instr) : (s.expand i).env.returns = s.env.returns := rfl
@[simp] theorem State.expand_env_hist (i : Instr) : (s.expand i).env.hist = s.env.hist := rfl
@[simp] theorem State.expand_env_hostReads (i : Instr) : (s.expand i).env.hostReads = s.env.hostReads := rfl
@[simp] theorem State.expand_env_draws (i : Instr) : (s.expand i).env.draws = s.env.draws := rfl

end Sys2Proof.Machine
end

