-- ==== Sys2Proof/Laws/Memory.lean ====
section
/-! SUPPORT. The laws of the TagBuffer's memory: a read behind a write, the canonical form kept by every operation, and
what ranges of bytes read as. -/

namespace Sys2Proof.Machine

/-- A byte written is the byte read there; every other byte reads as before. -/
theorem Memory.read_write (cells : List Host.Cell) (a b : Nat) (v : Byte) :
    Memory.read (Memory.write cells a v) b = if b = a then some v else Memory.read cells b := by
  induction cells with
  | nil => simp [Memory.write, Memory.read, eq_comm]
  | cons c rest ih =>
    obtain ⟨k, w⟩ := c
    simp only [Memory.write]
    split
    · by_cases h : b = a
      · simp [Memory.read, h]
      · simp [Memory.read, h, Ne.symm h]
    · split
      · rename_i h1 h2
        subst h2
        by_cases h : b = a
        · simp [Memory.read, h]
        · simp [Memory.read, h, Ne.symm h]
      · rename_i h1 h2
        simp only [Memory.read, ih]
        by_cases hk : k = b
        · subst hk
          simp [Ne.symm h2]
        · simp [hk]

@[simp] theorem Memory.read_write_same (cells : List Host.Cell) (a : Nat) (v : Byte) :
    Memory.read (Memory.write cells a v) a = some v := by
  simp [Memory.read_write]

theorem Memory.read_write_other (cells : List Host.Cell) {a b : Nat} (v : Byte) (h : b ≠ a) :
    Memory.read (Memory.write cells a v) b = Memory.read cells b := by
  simp [Memory.read_write, h]

/-- The addresses a write leaves listed. -/
theorem Memory.mem_keys_write (cells : List Host.Cell) (a x : Nat) (v : Byte) :
    x ∈ (Memory.write cells a v).map Prod.fst → x = a ∨ x ∈ cells.map Prod.fst := by
  induction cells with
  | nil => simp [Memory.write]
  | cons c rest ih =>
    obtain ⟨k, w⟩ := c
    simp only [Memory.write]
    split
    · simp
    · split
      · rename_i h1 h2
        subst h2
        simp
      · simp only [List.map_cons, List.mem_cons]
        rintro (h | h)
        · exact .inr (.inl h)
        · rcases ih h with h | h
          · exact .inl h
          · exact .inr (.inr h)

/-- A write keeps the canonical form. -/
theorem Memory.write_wf (cells : List Host.Cell) (a : Nat) (v : Byte) (h : Memory.wf cells) :
    Memory.wf (Memory.write cells a v) := by
  induction cells with
  | nil => simp [Memory.write, Memory.wf]
  | cons c rest ih =>
    obtain ⟨k, w⟩ := c
    simp only [Memory.wf, List.map_cons, List.pairwise_cons] at h
    obtain ⟨hk, hr⟩ := h
    simp only [Memory.write]
    split
    · rename_i hlt
      simp only [Memory.wf, List.map_cons, List.pairwise_cons, List.mem_cons]
      refine ⟨?_, hk, hr⟩
      rintro x (rfl | hx)
      · exact hlt
      · exact lt_trans hlt (hk x hx)
    · split
      · rename_i h1 h2
        subst h2
        exact List.pairwise_cons.2 ⟨hk, hr⟩
      · rename_i h1 h2
        simp only [Memory.wf, List.map_cons, List.pairwise_cons]
        refine ⟨fun x hx => ?_, ih hr⟩
        rcases Memory.mem_keys_write rest a x v hx with rfl | hx
        · omega
        · exact hk x hx

/-- The emptied memory has the canonical form. -/
theorem Memory.nil_wf : Memory.wf [] := List.Pairwise.nil

/-- Reset memory has the canonical form. -/
theorem State.reset_memory_wf : Memory.wf State.reset.tb.cells := Memory.nil_wf

/-- An append keeps the canonical form. -/
theorem State.tbPush_wf (s : State) (b : Byte) (h : Memory.wf s.tb.cells) : Memory.wf (s.tbPush b).tb.cells :=
  Memory.write_wf _ _ _ h

/-- Appending a payload keeps the canonical form. -/
theorem State.tbAppend_wf (bs : List Byte) (s : State) (h : Memory.wf s.tb.cells) :
    Memory.wf (s.tbAppend bs).tb.cells := by
  induction bs generalizing s with
  | nil => exact h
  | cons b bs ih => exact ih (s.tbPush b) (s.tbPush_wf b h)

@[simp] theorem State.tbAppend_nil (s : State) : s.tbAppend [] = s := rfl

@[simp] theorem State.tbAppend_cons (s : State) (b : Byte) (bs : List Byte) :
    s.tbAppend (b :: bs) = (s.tbPush b).tbAppend bs := rfl

/-- An append touches the TagBuffer alone. -/
theorem State.tbAppend_frame (bs : List Byte) (s : State) :
    s.tbAppend bs = { s with tb := (s.tbAppend bs).tb } := by
  induction bs generalizing s with
  | nil => rfl
  | cons b bs ih =>
    rw [State.tbAppend_cons, ih (s.tbPush b)]
    rfl

/-- A range that holds `n` values has length `n`. -/
theorem Memory.readRange_length (cells : List Host.Cell) (n a : Nat) (bs : List Byte)
    (h : Memory.readRange cells a n = some bs) : bs.length = n := by
  induction n generalizing a bs with
  | zero => simp [Memory.readRange] at h; simp [← h]
  | succ n ih =>
    simp only [Memory.readRange] at h
    split at h
    · rename_i b rest hb hr
      cases h
      simp [ih _ _ hr]
    · cases h

/-- A range holds values exactly where each of its bytes does. -/
theorem Memory.readRange_get (cells : List Host.Cell) (n a : Nat) (bs : List Byte)
    (h : Memory.readRange cells a n = some bs) (i : Nat) (hi : i < n) :
    Memory.read cells (a + i) = bs[i]? := by
  induction n generalizing a bs i with
  | zero => omega
  | succ n ih =>
    simp only [Memory.readRange] at h
    split at h
    · rename_i b rest hb hr
      cases h
      cases i with
      | zero => simpa using hb
      | succ i =>
        rw [show a + (i + 1) = a + 1 + i by omega]
        simpa using ih (a + 1) rest hr i (by omega)
    · cases h

/-- Every byte of a range holds a value, so the range does. -/
theorem Memory.readRange_isSome (cells : List Host.Cell) (n a : Nat)
    (h : ∀ i, i < n → (Memory.read cells (a + i)).isSome = true) :
    ∃ bs, Memory.readRange cells a n = some bs := by
  induction n generalizing a with
  | zero => exact ⟨[], rfl⟩
  | succ n ih =>
    obtain ⟨b, hb⟩ := Option.isSome_iff_exists.1 (h 0 (by omega))
    obtain ⟨bs, hbs⟩ := ih (a + 1) (fun i hi => by
      have := h (i + 1) (by omega)
      rwa [← Nat.add_assoc, Nat.add_right_comm] at this)
    exact ⟨b :: bs, by simp [Memory.readRange, hbs, show Memory.read cells a = some b from hb]⟩

end Sys2Proof.Machine
end

