-- ==== Sys2Proof/Laws/Ops.lean ====
section
/-! SUPPORT. What each shared operation can do, said once, for proofs to cite instead of unfolding it. -/

namespace Sys2Proof.Machine

/-! ## Requests (R90, R229) -/

/-- A request on an idle block starts the accepted operation. -/
theorem State.request_idle (s : State) (op : Byte) (start : State → State) (h : s.hif.busy = false) :
    s.request op start = .next (start (s.accept op)) := by
  simp [State.request, h]

/-- A request on a busy block overruns. -/
theorem State.request_busy (s : State) (op : Byte) (start : State → State) (h : s.hif.busy = true) :
    s.request op start = .next s.overrun := by
  simp [State.request, h]

/-- What a request can do. -/
theorem State.request_cases (s t : State) (op : Byte) (start : State → State) (h : s.request op start = .next t) :
    (s.hif.busy = true ∧ t = s.overrun) ∨ (s.hif.busy = false ∧ t = start (s.accept op)) := by
  cases hb : s.hif.busy with
  | true =>
    rw [State.request_busy s op start hb] at h
    cases h
    exact .inl ⟨rfl, rfl⟩
  | false =>
    rw [State.request_idle s op start hb] at h
    cases h
    exact .inr ⟨rfl, rfl⟩

/-! ## Checked cursor reads (R80) -/

/-- What a checked cursor read can do: the cursor at `CE` if the field does not fit, else the big-endian value of the
bytes there with the cursor behind them, or no value. -/
theorem State.take_cases (s : State) (n : Nat) :
    (s.ndd.ce.toNat < s.ndd.idx.toNat + n ∧ s.take n = .exhausted (s.setIdx s.ndd.ce.toNat)) ∨
      (s.ndd.idx.toNat + n ≤ s.ndd.ce.toNat ∧
        ((∃ bs, Memory.readRange s.tb.cells s.ndd.idx.toNat n = some bs ∧
            s.take n = .ok (beNat bs) (s.setIdx (s.ndd.idx.toNat + n))) ∨
          (Memory.readRange s.tb.cells s.ndd.idx.toNat n = none ∧ s.take n = .noValue))) := by
  unfold State.take memRead
  by_cases h : s.ndd.ce.toNat < s.ndd.idx.toNat + n
  · exact .inl ⟨h, by simp [h]⟩
  · refine .inr ⟨by omega, ?_⟩
    cases hr : Memory.readRange s.tb.cells s.ndd.idx.toNat n with
    | none => exact .inr ⟨rfl, by simp [h]⟩
    | some bs => exact .inl ⟨bs, rfl, by simp [h]⟩

/-- A clamped skip stays at or below `CE`. -/
theorem State.skip_le (s : State) (n : Nat) : (s.skip n).ndd.idx.toNat = min n s.ndd.ce.toNat := by
  have h := s.ndd.ce.isLt
  simp only [State.skip, State.setIdx, BitVec.toNat_ofNat]
  omega

/-- The window at the cursor never reaches `CE`, and holds the bytes there. -/
theorem State.window_length (s : State) (n : Nat) (bs : List Byte) (h : s.window n = some bs) :
    bs.length = min n (s.ndd.ce.toNat - s.ndd.idx.toNat) :=
  Memory.readRange_length _ _ _ _ h

/-! ## The capacity (R13) -/

theorem Params.cap_toNat (p : Params) : p.cap.toNat = 7 + p.capAbove.val := by
  have h := p.capAbove.isLt
  simp only [Params.cap, Config.payloadMax, BitVec.toNat_ofNat]
  omega

/-- The capacity holds a whole payload. -/
theorem Params.seven_le_cap (p : Params) : 7 ≤ p.cap.toNat := by
  rw [Params.cap_toNat]
  omega

/-! ## Primitives (R130, R261) -/

@[simp] theorem State.unlessStuck_stuck (s : State) (k : State → State) (h : s.tpd.stuck = true) :
    s.unlessStuck k = s := by
  simp [State.unlessStuck, h]

@[simp] theorem State.unlessStuck_returned (s : State) (k : State → State) (h : s.tpd.stuck = false) :
    s.unlessStuck k = k s := by
  simp [State.unlessStuck, h]

/-- What issuing a primitive without an answer can do, from a state in which none is stuck: it returns, or the block is
stuck in it; its event is recorded in both. -/
theorem State.perform_cases (s : State) (e : BusEvent) (k : State → State) (h : s.tpd.stuck = false) :
    (s.env.returns.head? ≠ some false ∧
        s.perform e k = k { s with env.hist := s.env.hist ++ [e], env.returns := s.env.returns.tail }) ∨
      (s.env.returns.head? = some false ∧
        s.perform e k =
          { s with env.hist := s.env.hist ++ [e], env.returns := s.env.returns.tail, tpd.stuck := true }) := by
  unfold State.perform
  cases hr : s.env.returns.head? == some false with
  | true =>
    refine .inr ⟨by simpa using hr, ?_⟩
    rw [State.unlessStuck_stuck _ _ (by simpa using hr), State.issue, hr]
    rfl
  | false =>
    refine .inl ⟨by simpa using hr, ?_⟩
    rw [State.unlessStuck_returned _ _ (by simpa using hr), State.issue, hr, ← h]
    rfl

/-- What the sending of a command can do: stuck in `BusBegin`, stuck in `BusSetAddr`, or the bytes on the bus and the
write's answer awaited. -/
theorem State.sendCommand_cases (s : State) (image : Frame) (h : s.tpd.stuck = false) :
    let u := { s with tpd.xbuf := image, tpd.attempts := s.tpd.attempts + 1, tpd.tst := .write }
    (s.env.returns.head? = some false ∧ s.sendCommand image =
        { u with env.hist := s.env.hist ++ [.busBegin], env.returns := s.env.returns.tail, tpd.stuck := true }) ∨
      (s.env.returns.head? ≠ some false ∧ s.env.returns.tail.head? = some false ∧ s.sendCommand image =
        { u with
          env.hist := s.env.hist ++ [.busBegin] ++ [.busSetAddr s.par.devAddr],
          env.returns := s.env.returns.tail.tail, tpd.stuck := true }) ∨
      (s.env.returns.head? ≠ some false ∧ s.env.returns.tail.head? ≠ some false ∧ s.sendCommand image =
        { u with
          env.hist := s.env.hist ++ [.busBegin] ++ [.busSetAddr s.par.devAddr] ++ [.busWrite (sentBytes image)],
          env.returns := s.env.returns.tail.tail }) := by
  intro u
  rcases u.perform_cases .busBegin
      (fun t => t.perform (.busSetAddr s.par.devAddr) fun v => v.record [.busWrite (sentBytes image)]) h with
    ⟨h1, e1⟩ | ⟨h1, e1⟩
  · rcases State.perform_cases { u with env.hist := u.env.hist ++ [.busBegin], env.returns := u.env.returns.tail }
        (.busSetAddr s.par.devAddr) (fun v => v.record [.busWrite (sentBytes image)]) h with ⟨h2, e2⟩ | ⟨h2, e2⟩
    · exact .inr (.inr ⟨h1, h2, e1.trans e2⟩)
    · exact .inr (.inl ⟨h1, h2, e1.trans e2⟩)
  · exact .inl ⟨h1, e1⟩

/-! ## The ends of an attempt (R132 to R136, R160) -/

/-- What follows a failed attempt: another try behind a gap, or completion. -/
theorem State.afterFailure_cases (s : State) :
    (s.hif.retry = true ∧ s.tpd.tryNo.toNat < s.maxTries ∧ s.afterFailure = { s with tpd.tst := .gap }) ∨
      (¬(s.hif.retry = true ∧ s.tpd.tryNo.toNat < s.maxTries) ∧ s.looping = true ∧
        s.afterFailure = s.endWith .ok s.hif.cause) ∨
      (¬(s.hif.retry = true ∧ s.tpd.tryNo.toNat < s.maxTries) ∧ s.looping = false ∧ s.afterFailure = s.complete) := by
  unfold State.afterFailure
  by_cases h : s.hif.retry = true ∧ s.tpd.tryNo.toNat < s.maxTries
  · exact .inl ⟨h.1, h.2, by simp [h]⟩
  · cases hl : s.looping with
    | true => exact .inr (.inl ⟨h, rfl, by simp [h, State.endWith, State.setResult]⟩)
    | false => exact .inr (.inr ⟨h, rfl, by simp [h]⟩)

/-- What the page loop does before a read: the capacity stop, or the tries of the page. -/
theorem State.beginPage_cases (s : State) (p : Byte) :
    (s.par.cap.toNat < s.tb.len.toNat + Config.payloadMax ∧ s.beginPage p = s.endWith .ok .cap) ∨
      (s.tb.len.toNat + Config.payloadMax ≤ s.par.cap.toNat ∧ s.beginPage p = s.beginTries p) := by
  unfold State.beginPage
  by_cases h : s.par.cap.toNat < s.tb.len.toNat + Config.payloadMax
  · exact .inl ⟨h, by simp [h]⟩
  · exact .inr ⟨by omega, by simp [h]⟩

/-- What the page loop does behind an append: it stops after the last page, or goes on to the next. -/
theorem State.loopAppend_cases (s : State) :
    (s.tpd.reqPage = Config.lastPage ∧
        s.loopAppend = (s.tbAppend (s.tpd.pdata.toList.take s.tpd.plen.toNat)).endWith .ok .lastPage) ∨
      (s.tpd.reqPage ≠ Config.lastPage ∧
        s.loopAppend = (s.tbAppend (s.tpd.pdata.toList.take s.tpd.plen.toNat)).beginPage (s.tpd.reqPage + 1)) := by
  unfold State.loopAppend
  by_cases h : s.tpd.reqPage = Config.lastPage
  · exact .inl ⟨h, by simp [h]⟩
  · exact .inr ⟨h, by simp [h]⟩

/-- What a Text record comes to behind its language length (R198, R199, R203): rejected, cut, or found. -/
theorem State.textBody_cases (s : State) :
    (s.ndd.paylen.toNat < 1 + s.ndd.langlen.toNat ∧ s.textBody = s.rejectRecord) ∨
      (1 + s.ndd.langlen.toNat ≤ s.ndd.paylen.toNat ∧
        s.ndd.ce.toNat < s.ndd.idx.toNat + s.ndd.langlen.toNat + (s.ndd.paylen.toNat - 1 - s.ndd.langlen.toNat) ∧
        s.textBody = s.exhaust) ∨
      (1 + s.ndd.langlen.toNat ≤ s.ndd.paylen.toNat ∧
        s.ndd.idx.toNat + s.ndd.langlen.toNat + (s.ndd.paylen.toNat - 1 - s.ndd.langlen.toNat) ≤ s.ndd.ce.toNat ∧
        s.textBody = s.raiseFound (s.ndd.idx.toNat + s.ndd.langlen.toNat)
          (s.ndd.paylen.toNat - 1 - s.ndd.langlen.toNat)) := by
  unfold State.textBody langOverrun
  by_cases h : s.ndd.paylen.toNat < 1 + s.ndd.langlen.toNat
  · exact .inl ⟨h, by simp [h]⟩
  · by_cases h2 :
      s.ndd.ce.toNat < s.ndd.idx.toNat + s.ndd.langlen.toNat + (s.ndd.paylen.toNat - 1 - s.ndd.langlen.toNat)
    · exact .inr (.inl ⟨by omega, h2, by simp [h, h2]⟩)
    · exact .inr (.inr ⟨by omega, by omega, by simp [h, h2]⟩)

/-- What a validated frame's cause can be: status before length (R131, R132). -/
theorem frameCause_cases (f : Frame) (ovh : Nat) :
    (f.b2 ≠ 0 ∧ frameCause f ovh = .status) ∨ (f.b2 = 0 ∧ f.b0.toNat ≤ ovh ∧ frameCause f ovh = .framing) ∨
      (f.b2 = 0 ∧ ovh < f.b0.toNat ∧ frameCause f ovh = .none) := by
  unfold frameCause
  by_cases h : f.b2 = 0
  · by_cases h2 : f.b0.toNat ≤ ovh
    · exact .inr (.inl ⟨h, h2, by simp [h, h2]⟩)
    · exact .inr (.inr ⟨h, by omega, by simp [h, h2]⟩)
  · exact .inl ⟨h, if_pos h⟩

/-! ## One step -/

/-- A move that is no instruction is the step. -/
theorem step_move (s : State) (o : Outcome) (h : s.fetch = .move o) : step s = o := by
  simp [step, h]

/-- What a step can do: a move, a decoded element run, or an element that does not decode. -/
theorem step_cases (s : State) :
    (∃ o, s.fetch = .move o ∧ step s = o) ∨
      (∃ f bs t i, s.fetch = .element f bs t ∧ decode f bs = .ok i ∧ step s = exec i t) ∨
      (∃ f bs t e, s.fetch = .element f bs t ∧ decode f bs = .refused e ∧ step s = refusedElement f t) := by
  cases hf : s.fetch with
  | move o => exact .inl ⟨o, rfl, step_move s o hf⟩
  | element f bs t =>
    cases hd : decode f bs with
    | ok i => exact .inr (.inl ⟨f, bs, t, i, rfl, hd, by simp [step, hf, hd]⟩)
    | refused e => exact .inr (.inr ⟨f, bs, t, e, rfl, hd, by simp [step, hf, hd]⟩)

end Sys2Proof.Machine
end

