-- ==== Sys2Proof/Laws/PerInstr.lean ====
section
/-! SUPPORT. The per-instruction family `EncodedLength`: every instruction's bytes are at least one and, where it has a
format of its own, at most the eleven of a frame. -/

namespace Sys2Proof.Laws.EncodedLength

/-- `i` is written as at least one byte, and in a format of its own as at most eleven (R96, R100 to R107). -/
def Statement (i : Instr) : Prop :=
  0 < (encode i).length ∧ (i.format.isSome = true → (encode i).length ≤ 11)

theorem sel : Statement .sel := ⟨by decide, fun _ => by decide⟩
theorem selr : Statement .selr := ⟨by decide, fun _ => by decide⟩
theorem rdp (page : Byte) : Statement (.rdp page) :=
  ⟨by simp [encode, requestBytes], fun _ => by simp [encode, requestBytes]⟩
theorem rdpr (page : Byte) : Statement (.rdpr page) :=
  ⟨by simp [encode, requestBytes], fun _ => by simp [encode, requestBytes]⟩
theorem rdt : Statement .rdt := ⟨by decide, fun _ => by decide⟩
theorem rdtr : Statement .rdtr := ⟨by decide, fun _ => by decide⟩
theorem dec : Statement .dec := ⟨by decide, fun _ => by decide⟩
theorem tbclr : Statement .tbclr := ⟨by decide, fun _ => by decide⟩
theorem tbapp (byte : Byte) : Statement (.tbapp byte) :=
  ⟨by simp [encode, requestBytes], fun _ => by simp [encode, requestBytes]⟩
theorem undefinedOp (op : Byte) : Statement (.undefinedOp op) :=
  ⟨by simp [encode, requestBytes], fun _ => by simp [encode, requestBytes]⟩
theorem selectTag : Statement .selectTag := ⟨by decide, fun _ => by decide⟩
theorem readPage (page : Byte) : Statement (.readPage page) := ⟨by simp [encode], fun _ => by simp [encode]⟩
theorem resp (frame : Frame) : Statement (.resp frame) :=
  ⟨by simp [encode, Frame.toList], fun _ => by simp [encode, Frame.toList]⟩
theorem tlvNull : Statement .tlvNull := ⟨by decide, fun _ => by decide⟩
theorem tlvNdef : Statement .tlvNdef := ⟨by decide, fun _ => by decide⟩
theorem tlvTerminator : Statement .tlvTerminator := ⟨by decide, fun _ => by decide⟩
theorem tlvOpaque (t : Byte) : Statement (.tlvOpaque t) := ⟨by simp [encode], fun _ => by simp [encode]⟩
theorem lenShort (l : Byte) : Statement (.lenShort l) := ⟨by simp [encode], fun _ => by simp [encode]⟩
theorem lenExt (l : Half) : Statement (.lenExt l) := ⟨by simp [encode], fun _ => by simp [encode, be16Bytes]⟩
theorem recSr (f : RecFlags) (tl pl : Byte) : Statement (.recSr f tl pl) :=
  ⟨by simp [encode], fun _ => by simp [encode]⟩
theorem recSrIl (f : RecFlags) (tl pl il : Byte) : Statement (.recSrIl f tl pl il) :=
  ⟨by simp [encode], fun _ => by simp [encode]⟩
theorem recLong (f : RecFlags) (tl : Byte) (pl : BitVec 32) : Statement (.recLong f tl pl) :=
  ⟨by simp [encode], fun _ => by simp [encode, be32Bytes]⟩
theorem recLongIl (f : RecFlags) (tl : Byte) (pl : BitVec 32) (il : Byte) : Statement (.recLongIl f tl pl il) :=
  ⟨by simp [encode], fun _ => by simp [encode, be32Bytes]⟩
theorem recText : Statement .recText := ⟨by decide, fun _ => by decide⟩
theorem recOther : Statement .recOther := ⟨by decide, fun _ => by decide⟩
theorem tbload (bs : List Byte) : Statement (.tbload bs) :=
  ⟨by simp [encode, requestBytes], fun h => by simp [Instr.format] at h⟩
theorem readid : Statement .readid := ⟨by decide, fun _ => by decide⟩
theorem dump : Statement .dump := ⟨by decide, fun _ => by decide⟩
theorem readtext : Statement .readtext := ⟨by decide, fun _ => by decide⟩

end Sys2Proof.Laws.EncodedLength
end

