-- ==== Sys2Proof/Tests/Slice0.lean ====
section
/-! SUPPORT. Tests: well-formedness, decoding of words written out from the spec's encodings, one step of each
instruction with values from spec/95_test_vectors.md or the rules' own examples, and a witness of the hypotheses of
every statement that has some. -/

namespace Sys2Proof.Tests

open Sys2Proof.Machine

/-! ## Small states -/

/-- A next state with a property. -/
def goesTo (o : Outcome) (p : State → Bool) : Bool :=
  match o with
  | .next t => p t
  | _ => false

/-- After reset, with these bytes in the TagBuffer. -/
def holding (bs : List Byte) : State := State.reset.loadTagBuffer bs

/-- `DEC` running over these bytes, the cursor at `i`, in a state of the decoder unit. -/
def scanning (bs : List Byte) (i : Half) (d : Dst) : State :=
  { (holding bs) with
    hif.op := 0x30, hif.busy := true, ndd.ce := BitVec.ofNat 16 bs.length, ndd.idx := i, ndd.dst := d }

/-- `DEC` in the body of a record that begins at the cursor, with these header registers. -/
def inRecord (bs : List Byte) (i : Half) (hdr typelen : Byte) (paylen : BitVec 32) : State :=
  { (scanning bs i .record) with
    ndd.hdr := hdr, ndd.typelen := typelen, ndd.paylen := paylen, ndd.body := i, ndd.inBody := true }

/-- An operation of the transactor running, in one of its states, at a try. -/
def running (op : Byte) (d : Tst) (tryNo : BitVec 4) : State :=
  { State.reset with
    hif.op := op, hif.busy := true, tpd.tst := d, tpd.tryNo := tryNo,
    tpd.attempts := if d = .build then tryNo - 1 else tryNo, tpd.reqPage := 4 }

/-- The answer of V3 (`SEL`). -/
def tagAnswer : Frame := ⟨0x0A, 0x01, 0x00, 0x04, 0xA1, 0xB2, 0xC3, 0xD4, 0xE5, 0xF6, 0x44⟩

/-- The answer of V9 (`RDP 4`). -/
def pageAnswer : Frame := ⟨0x09, 0x10, 0x00, 0x03, 0x0C, 0xD1, 0x01, 0x08, 0x54, 0x02, 0x00⟩

/-- The bytes of S6, whose text is "hi". -/
def hi : List Byte := [0x03, 0x09, 0xD1, 0x01, 0x05, 0x54, 0x02, 0x65, 0x6E, 0x68, 0x69, 0xFE]

/-! ## Well-formedness -/

theorem test_wf_undefinedOp : Instr.wellFormed (.undefinedOp 0x01) = false := by decide
theorem test_wf_undefinedOp_ok : Instr.wellFormed (.undefinedOp 0xB0) = true := by decide
theorem test_wf_tlvOpaque_null : Instr.wellFormed (.tlvOpaque 0x00) = false := by decide
theorem test_wf_tlvOpaque_ndef : Instr.wellFormed (.tlvOpaque 0x03) = false := by decide
theorem test_wf_tlvOpaque_term : Instr.wellFormed (.tlvOpaque 0xFE) = false := by decide
theorem test_wf_lenShort : Instr.wellFormed (.lenShort 0xFF) = false := by decide
theorem test_wf_tbload : Instr.wellFormed (.tbload []) = false := by decide

/-! ## Decoding: words written out from spec/30_encoding.md -/

theorem test_decode_sel : decodeTableWord 16 0b0000000100000000 = some .sel := by decide
theorem test_decode_selr : decodeTableWord 16 0b1000000100000000 = some .selr := by decide
theorem test_decode_rdp : decodeTableWord 16 0b0001000000000100 = some (.rdp 4) := by decide
theorem test_decode_rdpr : decodeTableWord 16 0b1001000011111111 = some (.rdpr 255) := by decide
theorem test_decode_rdt : decodeTableWord 16 0b0010000000000000 = some .rdt := by decide
theorem test_decode_rdtr : decodeTableWord 16 0b1010000001010101 = some .rdtr := by decide
theorem test_decode_dec : decodeTableWord 16 0b0011000000000000 = some .dec := by decide
theorem test_decode_tbclr : decodeTableWord 16 0b0100000000000000 = some .tbclr := by decide
theorem test_decode_tbapp : decodeTableWord 16 0b0100000111010001 = some (.tbapp 0xD1) := by decide
theorem test_decode_undefinedOp : decodeTableWord 16 0b1011000000000000 = some (.undefinedOp 0xB0) := by decide
theorem test_decode_selectTag : decode .busCmd [0b00000001, 0b00000001] = .ok .selectTag := by decide
theorem test_decode_readPage : decodeTableWord 24 0b000000100001000000001011 = some (.readPage 11) := by decide
theorem test_decode_resp : decodeTableWord 88 0x0A010004A1B2C3D4E5F644 = some (.resp tagAnswer) := by decide
theorem test_decode_tlvNull : decode .tlv [0b00000000] = .ok .tlvNull := by decide
theorem test_decode_tlvNdef : decode .tlv [0b00000011] = .ok .tlvNdef := by decide
theorem test_decode_tlvTerminator : decode .tlv [0b11111110] = .ok .tlvTerminator := by decide
theorem test_decode_tlvOpaque : decode .tlv [0b11111111] = .ok (.tlvOpaque 0xFF) := by decide
theorem test_decode_lenShort : decode .tlvLen [0b11111110] = .ok (.lenShort 254) := by decide
theorem test_decode_lenExt : decodeTableWord 24 0b111111110000000100101100 = some (.lenExt 300) := by decide
theorem test_decode_recSr :
    decode .ndefRec [0b11010001, 1, 5] = .ok (.recSr ⟨true, true, false, 1⟩ 1 5) := by decide
theorem test_decode_recSrIl :
    decode .ndefRec [0b11011001, 1, 5, 2] = .ok (.recSrIl ⟨true, true, false, 1⟩ 1 5 2) := by decide
theorem test_decode_recLong :
    decode .ndefRec [0b11000001, 1, 0, 0, 1, 0x2C] = .ok (.recLong ⟨true, true, false, 1⟩ 1 300) := by decide
theorem test_decode_recLongIl :
    decode .ndefRec [0b00101010, 3, 1, 0, 0, 0, 7] = .ok (.recLongIl ⟨false, false, true, 2⟩ 3 0x01000000 7) := by
  decide
theorem test_decode_recText : decode .recClass [0b01000001, 1, 0b01010100] = .ok .recText := by decide
theorem test_decode_recOther_type : decode .recClass [0b11010001, 1, 0b01110100] = .ok .recOther := by decide
theorem test_decode_recOther_tnf : decode .recClass [0b11010010, 1, 0b01010100] = .ok .recOther := by decide
theorem test_decode_cut_length : decode .tlvLen [0xFF, 0x01] = .refused .truncated := by decide
theorem test_decode_no_command : decode .busCmd [0x02, 0x01, 0x00] = .refused .notACommand := by decide
theorem test_fetch_word_rdp :
    goesTo (step (State.reset.withFetchWord 16 0x1004)) (fun t => t.hif.op == 0x10 && t.tpd.reqPage == 4) = true := by
  decide

/-! ## One step of each instruction -/

theorem test_sel : goesTo (exec .sel State.reset)
    (fun t => t.hif.op == 0x01 && t.hif.status == 0x01 && t.tpd.tst == .build && t.selecting) = true := by decide
theorem test_selr : goesTo (exec .selr State.reset)
    (fun t => t.hif.op == 0x81 && t.tpd.tryNo == 1 && t.maxTries == 10 && t.selecting) = true := by decide
theorem test_rdp : goesTo (exec (.rdp 4) State.reset)
    (fun t => t.commandBytes == [0x02, 0x10, 0x04] && t.tpd.page == 0) = true := by decide
theorem test_rdpr : goesTo (exec (.rdpr 40) State.reset)
    (fun t => t.commandBytes == [0x02, 0x10, 0x28] && t.tpd.tryNo == 1 && t.maxTries == 12) = true := by decide
theorem test_rdt_empties_first : goesTo (exec .rdt (holding [0xAA, 0xBB, 0xCC]))
    (fun t => t.tb.len == 0 && t.commandBytes == [0x02, 0x10, 0x04]) = true := by decide
theorem test_rdtr : goesTo (exec .rdtr State.reset)
    (fun t => t.hif.op == 0xA0 && t.tpd.tryNo == 1 && t.looping) = true := by decide
theorem test_dec : goesTo (exec .dec (holding hi))
    (fun t => t.ndd.ce == 12 && t.ndd.idx == 0 && t.ndd.dst == .readType) = true := by decide
theorem test_dec_while_busy : goesTo (exec .dec (running 0x81 .write 1))
    (fun t => t.hif.ovr && t.hif.op == 0x81 && t.ndd.dst == .idle) = true := by decide
theorem test_tbclr : goesTo (exec .tbclr (holding [1, 2]))
    (fun t => t.tb.len == 0 && t.hif.res == .ok && t.hif.status == 0x02) = true := by decide
theorem test_tbapp : goesTo (exec (.tbapp 0xD1) (holding [1, 2]))
    (fun t => t.tb.len == 3 && t.tbBytes == some [1, 2, 0xD1] && t.hif.res == .ok) = true := by decide
theorem test_tbapp_full : goesTo (exec (.tbapp 0) { (holding [1, 2, 3, 4, 5, 6, 7]) with par.capAbove := 0 })
    (fun t => t.tb.len == 7 && t.hif.res == .refused && t.hif.cause == .cap) = true := by decide
theorem test_undefinedOp : goesTo (exec (.undefinedOp 0xB0) State.reset)
    (fun t => t.hif.res.code == 6 && t.hif.cause.code == 10 && t.hif.status == 0x02) = true := by decide
theorem test_selectTag : goesTo (exec .selectTag (running 0x01 .build 1))
    (fun t => t.tpd.xbuf.toList == [1, 1, 0, 0, 0, 0, 0, 0, 0, 0, 0] && t.tpd.attempts == 1 && t.tpd.page == 0) =
      true := by decide
theorem test_readPage : goesTo (exec (.readPage 255) (running 0x10 .build 1))
    (fun t => t.tpd.xbuf.toList == [2, 0x10, 0xFF, 0, 0, 0, 0, 0, 0, 0, 0] && t.tpd.page == 255) = true := by decide
theorem test_resp_select : goesTo (exec (.resp tagAnswer) (running 0x01 .check 1))
    (fun t => t.tpd.idlen == 7 && t.tpd.tagid.toList == [0x04, 0xA1, 0xB2, 0xC3, 0xD4, 0xE5, 0xF6] &&
      t.tpd.tagtype == 0x44 && t.hif.status == 0x02) = true := by decide
theorem test_resp_framing : goesTo (exec (.resp ⟨2, 0x10, 0, 0xAA, 0, 0, 0, 0, 0, 0, 0⟩) (running 0x10 .check 1))
    (fun t => t.tpd.plen == 0 && t.hif.res == .noMorePages && t.hif.cause == .framing) = true := by decide
theorem test_tlvNull : goesTo (exec .tlvNull (scanning [0, 0, 0] 0 .readType))
    (fun t => t.ndd.idx == 1 && t.ndd.dst == .readType) = true := by decide
theorem test_tlvNdef_read : goesTo (exec .tlvNdef (scanning hi 0 .readType))
    (fun t => t.ndd.tlvT == 3 && t.ndd.idx == 1 && t.ndd.dst == .readLength) = true := by decide
theorem test_tlvNdef_dispatch : goesTo (exec .tlvNdef (scanning hi 2 .dispatch))
    (fun t => t.ndd.idx == 2 && t.ndd.dst == .record) = true := by decide
theorem test_tlvTerminator_read : goesTo (exec .tlvTerminator (scanning [0xFE, 0x00] 0 .readType))
    (fun t => t.ndd.tlvT == 0xFE && t.ndd.dst == .readLength) = true := by decide
theorem test_tlvTerminator_dispatch : goesTo (exec .tlvTerminator (scanning [0xFE, 0x00] 2 .dispatch))
    (fun t => t.hif.res == .notFound && t.hif.cause == .terminator && t.ndd.idx == 2) = true := by decide
theorem test_tlvOpaque_skips :
    goesTo (exec (.tlvOpaque 1) { (scanning [1, 3, 0xAA, 0xBB, 0xCC, 0xFE, 0] 2 .dispatch) with ndd.tlvL := 3 })
      (fun t => t.ndd.idx == 5 && t.ndd.dst == .readType) = true := by decide
theorem test_tlvOpaque_clamped :
    goesTo (exec (.tlvOpaque 1) { (scanning [1, 5, 0xAA, 0xBB] 2 .dispatch) with ndd.tlvL := 5 })
      (fun t => t.ndd.idx == 4) = true := by decide
theorem test_lenShort : goesTo (exec (.lenShort 9) (scanning hi 1 .readLength))
    (fun t => t.ndd.tlvL == 9 && t.ndd.idx == 2 && t.ndd.msgend == 11) = true := by decide
theorem test_lenExt : goesTo (exec (.lenExt 0xFFFF) (scanning [3, 0xFF, 0xFF, 0xFF] 1 .readLength))
    (fun t => t.ndd.tlvL == 0xFFFF && t.ndd.idx == 4 && t.ndd.msgend == 65539) = true := by decide
theorem test_recSr : goesTo (exec (.recSr ⟨true, true, false, 1⟩ 1 5) (scanning hi 2 .record))
    (fun t => t.ndd.hdr == 0xD1 && t.ndd.paylen == 5 && t.ndd.idx == 5 && t.ndd.body == 5) = true := by decide
theorem test_recSrIl : goesTo (exec (.recSrIl ⟨true, true, false, 1⟩ 1 5 2) (scanning hi 2 .record))
    (fun t => t.ndd.hdr == 0xD9 && t.ndd.ridlen == 2 && t.ndd.idx == 6) = true := by decide
theorem test_recLong : goesTo (exec (.recLong ⟨true, true, false, 1⟩ 1 300) (scanning hi 2 .record))
    (fun t => t.ndd.hdr == 0xC1 && t.ndd.paylen == 300 && t.ndd.idx == 8) = true := by decide
theorem test_recLongIl : goesTo (exec (.recLongIl ⟨true, true, false, 1⟩ 1 300 7) (scanning hi 2 .record))
    (fun t => t.ndd.hdr == 0xC9 && t.ndd.ridlen == 7 && t.ndd.idx == 9) = true := by decide
theorem test_recText_found : goesTo (exec .recText (inRecord hi 5 0xD1 1 5))
    (fun t => t.hif.res == .found && t.ndd.txtOff == 9 && t.ndd.txtLen == 2 && t.ndd.idx == 11) = true := by decide
theorem test_recText_rejected :
    goesTo (exec .recText (inRecord [3, 5, 0xD1, 1, 1, 0x54, 5, 0xFE, 0] 5 0xD1 1 1))
      (fun t => t.hif.badtxt && t.ndd.idx == 7 && t.ndd.dst == .readType) = true := by decide
theorem test_recOther_clamped :
    goesTo (exec .recOther (inRecord [3, 8, 0xD1, 1, 0x14, 0x55, 0xAA, 0xBB, 0xCC] 5 0xD1 1 20))
      (fun t => t.ndd.idx == 9 && t.ndd.dst == .readType) = true := by decide
theorem test_recOther_goes_on : goesTo (exec .recOther (inRecord hi 5 0x91 1 3))
    (fun t => t.ndd.idx == 9 && t.ndd.dst == .record) = true := by decide
theorem test_tbload : goesTo (exec (.tbload [0x0A, 0x0B]) State.reset)
    (fun t => t.env.script == [.request 0x4000, .request 0x410A, .request 0x410B]) = true := by decide
theorem test_readid : goesTo (exec .readid State.reset) (fun t => t.env.script == [.request 0x8100]) = true := by
  decide
theorem test_dump : goesTo (exec .dump State.reset)
    (fun t => t.env.script == [.request 0x8100, .request 0x2000]) = true := by decide
theorem test_readtext : goesTo (exec .readtext State.reset)
    (fun t => t.env.script == [.request 0x8100, .request 0xA000, .request 0x3000]) = true := by decide

/-! ## Witnesses: concrete states and operands that meet the hypotheses of each statement, clause by clause -/

/-- The transactor in a state, with the module's coming answers. -/
def answered (op : Byte) (d : Tst) (ws : List WriteAnswer) (rs : List ReadAnswer) : State :=
  { (running op d 1) with env.writes := ws, env.reads := rs }

/-- After reset, with the host's coming accesses. -/
def accessing (es : List HostEvent) : State := { State.reset with env.script := es }

theorem witness_DecodeEncodeAgree :
    (Instr.lenShort 254).wellFormed = true ∧ (Instr.lenShort 254).format = some .tlvLen ∧
      (Instr.undefinedOp 0x00).wellFormed = true ∧ (Instr.undefinedOp 0x00).format = some .hostReq := by decide
theorem witness_DecodedElementsAreWellFormed : decode .tlv [0xFF] = .ok (.tlvOpaque 0xFF) := by decide
theorem witness_DecodedBytesReencode :
    decode .busCmd [0x01, 0x01] = .ok .selectTag ∧ decode .busResp tagAnswer.toList = .ok (.resp tagAnswer) ∧
      decode .tlv [0x04] = .ok (.tlvOpaque 0x04) ∧ decode .tlvLen [0xFF, 0xFF, 0xFF] = .ok (.lenExt 0xFFFF) ∧
      decode .ndefRec [0x10, 0, 0] = .ok (.recSr ⟨false, false, false, 0⟩ 0 0) := by decide
theorem witness_OperationMap : (0x00 : Byte) ∉ definedOps ∧ (0xB0 : Byte) ∉ definedOps := by decide
theorem witness_TlvLengthField : (0x00 : Byte) ≠ 0xFF ∧ (0xFE : Byte) ≠ 0xFF := by decide
theorem witness_PayloadAndIdLength :
    (hdrSR 0x10 = true ∧ hdrIL 0x10 = false) ∧ (hdrSR 0xFF = true ∧ hdrIL 0xFF = true) ∧
      (hdrSR 0x00 = false ∧ hdrIL 0x00 = false) ∧ (hdrSR 0x08 = false ∧ hdrIL 0x08 = true) := by decide
theorem witness_StepRunsDecodedElement :
    (scanning hi 0 .readType).fetch = .element .tlv [0x03] (scanning hi 0 .readType) ∧
      decode .tlv [0x03] = .ok .tlvNdef := ⟨by rfl, by decide⟩
theorem witness_StepFetchesBySequencingState :
    let w := accessing [.write 0x00 0x30]
    let r := accessing [.request 0x1004]
    let d := scanning [0] 0 .readType
    (w.env.rst = false ∧ w.env.script = [.write 0x00 0x30]) ∧
      (r.env.rst = false ∧ r.hif.busy = false ∧ r.env.script = [.request ((0x10 : Byte) ++ (0x04 : Byte))]) ∧
      ((running 0x01 .build 1).transacting .build ∧ (running 0x01 .build 1).selecting = true) ∧
      ((running 0x10 .build 1).transacting .build ∧ (running 0x10 .build 1).selecting = false) ∧
      (running 0x10 .check 1).transacting .check ∧
      (d.decoding ∧ d.ndd.dst = .readType ∧ d.ndd.idx.toNat < d.ndd.ce.toNat ∧
        Memory.read d.tb.cells d.ndd.idx.toNat = some 0) ∧
      ((scanning hi 2 .dispatch).decoding ∧ (scanning hi 2 .dispatch).ndd.dst = .dispatch) := by
  unfold State.transacting State.decoding
  decide
theorem witness_StepFetches_waiting :
    let s := { (running 0x81 .settle 1) with env.script := [.request 0x3000] }
    let u := { (running 0x81 .settle 1) with env.script := [.pause] }
    (s.env.rst = false ∧ s.hif.busy = true ∧ s.env.script = [.request 0x3000] ∧
        ∃ t, step { s with env.script := [] } = .next t) ∧
      (u.env.rst = false ∧ u.env.script = [.pause] ∧ ∃ t, step { u with env.script := [] } = .next t) :=
  ⟨⟨rfl, rfl, rfl, _, rfl⟩, rfl, rfl, _, rfl⟩
theorem witness_StepFetches_fields :
    let s := scanning [3, 0] 1 .readLength
    let u := { (scanning [3, 9, 0xD1, 1, 5] 2 .record) with ndd.msgend := 11 }
    let v := inRecord hi 5 0xD1 1 5
    let w := inRecord [3, 3, 0xD2, 0, 0] 5 0xD2 0 0
    (s.decoding ∧ s.ndd.dst = .readLength ∧ decode .tlvLen [0] = .ok (.lenShort 0) ∧
        Memory.readRange s.tb.cells s.ndd.idx.toNat (min 3 (s.ndd.ce.toNat - s.ndd.idx.toNat)) = some [0]) ∧
      (u.decoding ∧ u.ndd.dst = .record ∧ u.ndd.inBody = false ∧ u.ndd.idx.toNat < u.ndd.msgend.toNat ∧
        u.ndd.idx.toNat < u.ndd.ce.toNat ∧
        Memory.readRange u.tb.cells u.ndd.idx.toNat (min 7 (u.ndd.ce.toNat - u.ndd.idx.toNat)) = some [0xD1, 1, 5]) ∧
      (v.decoding ∧ v.ndd.dst = .record ∧ v.ndd.inBody = true ∧ v.ndd.hdr = 0xD1 ∧ v.ndd.typelen = 1 ∧
        Memory.readRange v.tb.cells v.ndd.idx.toNat (min 1 (v.ndd.ce.toNat - v.ndd.idx.toNat)) = some [0x54] ∧
        decode .recClass [0xD1, 1, 0x54] = .ok .recText) ∧
      (w.decoding ∧ w.ndd.dst = .record ∧ w.ndd.inBody = true ∧
        Memory.readRange w.tb.cells w.ndd.idx.toNat (min 1 (w.ndd.ce.toNat - w.ndd.idx.toNat)) = some [] ∧
        decode .recClass [w.ndd.hdr, w.ndd.typelen] = .ok .recOther) := by
  unfold State.decoding
  decide
theorem witness_HistoryGrowsParametersStay : ∃ t, step (running 0x01 .build 1) = .next t := ⟨_, rfl⟩
theorem test_capacity_bounds :
    { State.reset.par with capAbove := 0 }.cap = 7 ∧ { State.reset.par with capAbove := 65528 }.cap = 65535 ∧
      State.reset.par.cap = 2048 := by decide
theorem witness_SelectTagCommandSent :
    let s := { (running 0x81 .build 10) with env.returns := [true, true, false] }
    s.tpd.stuck = false ∧ false ∉ s.env.returns.take 2 := by decide
theorem witness_ReadPageCommandSent :
    (running 0x20 .build 1).tpd.stuck = false ∧ false ∉ (running 0x20 .build 1).env.returns.take 2 := by decide
theorem witness_HostOperationsAreAccepted : (holding hi).hif.busy = false := by decide
theorem witness_OverrunDropsTheWrite :
    ((Instr.undefinedOp 0xFF).format = some .hostReq ∧ (running 0x81 .write 1).hif.busy = true) ∧
      ∃ s t : State, s.hif.ovr = true ∧ step s = .next t ∧ t.hif.ovr = false :=
  ⟨by decide, { (accessing [.rst true]) with hif.ovr := true }, _, rfl, rfl, rfl⟩
theorem witness_UndefinedOperationRefused :
    (0xC1 : Byte) ∉ definedOps ∧ State.reset.hif.busy = false ∧ State.reset.tpd.tst = .idle ∧
      State.reset.ndd.dst = .idle := by decide
theorem witness_TbclrEmptiesTheTagBuffer :
    (holding hi).hif.busy = false ∧ (holding hi).tpd.tst = .idle ∧ (holding hi).ndd.dst = .idle := by decide
theorem witness_TbappAppendsOneByte :
    let s := { (holding [1, 2, 3, 4, 5, 6]) with par.capAbove := 0 }
    let u := { (holding [1, 2, 3, 4, 5, 6, 7]) with par.capAbove := 0 }
    (s.hif.busy = false ∧ s.tpd.tst = .idle ∧ s.ndd.dst = .idle ∧ s.tb.len.toNat < s.par.cap.toNat) ∧
      (u.hif.busy = false ∧ u.tpd.tst = .idle ∧ u.ndd.dst = .idle ∧ u.par.cap.toNat ≤ u.tb.len.toNat) := by decide
theorem witness_TbloadLoadsItsBytes :
    let s := { State.reset with par.capAbove := 0 }
    s.quiet ∧ [(0 : Byte), 1, 2, 3, 4, 5, 0xFF].length ≤ s.par.cap.toNat := by
  unfold State.quiet
  decide
theorem witness_SelectResponseAccepted :
    let f : Frame := ⟨4, 1, 0, 0x9C, 0x21, 0, 0, 0, 0, 0, 0⟩
    (running 0x81 .check 3).selecting = true ∧ f.b2 = 0 ∧ 3 < f.b0.toNat := by decide
theorem witness_ReadResponseAccepted :
    let f : Frame := ⟨3, 0x10, 0, 0xAA, 0, 0, 0, 0, 0, 0, 0⟩
    (running 0x90 .check 3).selecting = false ∧ (running 0x90 .check 3).looping = false ∧ f.b2 = 0 ∧
      2 < f.b0.toNat := by decide
theorem witness_LoopResponseAppended :
    let s := { (running 0x20 .check 1) with par.capAbove := 0 }
    s.looping = true ∧ pageAnswer.b2 = 0 ∧ 2 < pageAnswer.b0.toNat ∧
      s.tb.len.toNat + 7 ≤ s.par.cap.toNat := by decide
theorem witness_LoopResponseAppended_branches :
    let cap := { (running 0x20 .check 1) with par.capAbove := 0 }
    let last := { (running 0x20 .check 1) with tpd.reqPage := 255, par.capAbove := 0 }
    let more := { (running 0xA0 .check 12) with tpd.reqPage := 254, par.capAbove := 7 }
    goesTo (exec (.resp pageAnswer) cap) (fun t => t.hif.cause == .cap && t.hif.status == 0x02) = true ∧
      goesTo (exec (.resp pageAnswer) last) (fun t => t.hif.cause == .lastPage && t.hif.status == 0x02) = true ∧
      (more.looping = true ∧ more.tb.len.toNat + 7 ≤ more.par.cap.toNat) ∧
      goesTo (exec (.resp pageAnswer) more) (fun t => t.tpd.reqPage == 255 && t.tpd.tst == .build && t.tpd.tryNo == 1) =
        true := by decide
theorem witness_ResponseRefused :
    let f : Frame := ⟨0, 1, 0xFF, 0, 0, 0, 0, 0, 0, 0, 0⟩
    let g : Frame := ⟨3, 1, 0, 0, 0, 0, 0, 0, 0, 0, 0⟩
    let h : Frame := ⟨2, 0x10, 0, 0xAA, 0, 0, 0, 0, 0, 0, 0⟩
    f.b2 ≠ 0 ∧ (g.b2 = 0 ∧ g.b0.toNat ≤ if (running 0x81 .check 9).selecting then 3 else 2) ∧
      (h.b2 = 0 ∧ h.b0.toNat ≤ if (running 0x10 .check 1).selecting then 3 else 2) := by decide
theorem witness_BusWriteErrorEndsTheAttempt :
    (answered 0x01 .write [.err] []).transacting .write ∧ (answered 0x01 .write [.err] []).env.writes = [.err] ∧
      (answered 0x01 .write [.err] []).env.returns.head? ≠ some false := by
  unfold State.transacting
  decide
theorem witness_BusReadErrorEndsTheAttempt :
    (answered 0x90 .read [] [.err]).transacting .read ∧ (answered 0x90 .read [] [.err]).env.reads = [.err] ∧
      (answered 0x90 .read [] [.err]).env.returns.head? ≠ some false := by
  unfold State.transacting
  decide
theorem witness_AttemptBusSequence :
    (answered 0x01 .build [.ok] [.bytes tagAnswer]).transacting .build ∧
      (answered 0x01 .build [.ok] [.bytes tagAnswer]).env.writes = [.ok] ∧
      (answered 0x01 .build [.ok] [.bytes tagAnswer]).env.reads = [.bytes tagAnswer] ∧
      false ∉ (answered 0x01 .build [.ok] [.bytes tagAnswer]).env.returns.take 4 := by
  unfold State.transacting
  decide
theorem witness_RetryGap :
    (running 0x81 .gap 1).transacting .gap ∧ (running 0x90 .gap 11).transacting .gap ∧
      (running 0x90 .gap 11).env.returns.head? ≠ some false := by
  unfold State.transacting
  decide
theorem test_read_gap : goesTo (step (running 0x90 .gap 11))
    (fun t => t.env.hist == [.busDelay 0] && t.tpd.tryNo == 12 && t.tpd.tst == .build) = true := by decide
theorem witness_StuckPrimitiveKeepsBusy :
    ((running 0x01 .write 1).transacting .write ∧ (running 0x01 .write 1).env.writes = []) ∧
      ((running 0x01 .read 1).transacting .read ∧ (running 0x01 .read 1).env.reads = []) ∧
      { (running 0x01 .gap 1) with tpd.stuck := true }.hung := by
  unfold State.transacting State.hung
  decide
theorem witness_StuckPrimitive_clauses :
    { (running 0x01 .build 1) with env.returns := [false] }.transacting .build ∧
      { (running 0x01 .build 1) with env.returns := [true, false] }.transacting .build ∧
      { (running 0x01 .settle 1) with env.returns := [false] }.transacting .settle ∧
      { (running 0x81 .gap 1) with env.returns := [false] }.transacting .gap ∧
      { (answered 0x01 .write [.err] []) with env.returns := [false] }.transacting .write ∧
      { (answered 0x01 .read [] [.bytes tagAnswer]) with env.returns := [false] }.transacting .read := by
  unfold State.transacting
  decide
theorem test_stuck_begin : goesTo (step { (running 0x01 .build 1) with env.returns := [false] })
    (fun t => t.tpd.stuck && t.env.hist == [.busBegin] && goesTo (step t) (fun u => u == t)) = true := by decide
theorem test_stuck_reset : goesTo (step { (accessing [.rst true]) with hif.busy := true, tpd.stuck := true })
    (fun t => !t.tpd.stuck && !t.hif.busy) = true := by decide
theorem witness_SelectOperation :
    State.quiet { State.reset with env.writes := [.ok], env.reads := [.bytes tagAnswer] } ∧
      State.busReturns { State.reset with env.writes := [.ok], env.reads := [.bytes tagAnswer] } ∧
      triesOf Config.ovhSelect 0 [.ok] [.bytes tagAnswer] = some ⟨1, .none, some tagAnswer, [], []⟩ ∧
      triesOf Config.ovhSelect 9 [.err, .ok] [.bytes tagAnswer] = some ⟨2, .none, some tagAnswer, [], []⟩ := by
  unfold State.quiet State.busReturns
  decide
theorem witness_ReadOperation :
    State.quiet { State.reset with env.writes := [.ok], env.reads := [.err] } ∧
      State.busReturns { State.reset with env.writes := [.ok], env.reads := [.err] } ∧
      triesOf Config.ovhRead 0 [.ok] [.err] = some ⟨1, .busRead, none, [], []⟩ ∧
      triesOf Config.ovhRead 11 [.ok, .ok] [.err, .bytes pageAnswer] =
        some ⟨2, .none, some pageAnswer, [], []⟩ := by
  unfold State.quiet State.busReturns
  decide
theorem witness_PageLoopOperation :
    let s := { (answered 0x20 .idle [.ok] [.bytes pageAnswer]) with
      hif.busy := false, par.capAbove := 0, env.returns := [true, true] }
    s.quiet ∧ s.busReturns ∧
      pageLoopOf s.par.cap.toNat 0 251 ⟨[], .none, none, s.env.writes, s.env.reads⟩ =
        some ⟨[0x03, 0x0C, 0xD1, 0x01, 0x08, 0x54, 0x02], .cap, some 4, [], []⟩ := by
  unfold State.quiet State.busReturns
  decide
theorem witness_DecodeOperation : (holding hi).quiet ∧ (holding hi).tbBytes = some hi := by
  unfold State.quiet
  decide
theorem witness_TlvNullTakesItsByte :
    (scanning [0] 0 .readType).ndd.idx.toNat < (scanning [0] 0 .readType).ndd.ce.toNat := by decide
theorem witness_TlvTypeReadBeforeItsLength :
    (scanning [0xFE] 0 .readType).ndd.dst = .readType ∧
      (scanning [0xFE] 0 .readType).ndd.idx.toNat < (scanning [0xFE] 0 .readType).ndd.ce.toNat := by decide
theorem witness_TlvDispatch : (scanning hi 2 .dispatch).ndd.dst = .dispatch := by decide
theorem witness_LengthFieldRead :
    (scanning [3, 0] 1 .readLength).ndd.idx.toNat + 1 ≤ (scanning [3, 0] 1 .readLength).ndd.ce.toNat ∧
      (scanning [3, 0xFF, 1, 0x2C] 1 .readLength).ndd.idx.toNat + 3 ≤
        (scanning [3, 0xFF, 1, 0x2C] 1 .readLength).ndd.ce.toNat := by decide
theorem witness_RecordHeadersRead :
    (scanning [0x10, 0, 0] 0 .record).ndd.idx.toNat + 3 ≤ (scanning [0x10, 0, 0] 0 .record).ndd.ce.toNat ∧
      (scanning [8, 0, 0, 0, 0, 0, 0] 0 .record).ndd.idx.toNat + 7 ≤
        (scanning [8, 0, 0, 0, 0, 0, 0] 0 .record).ndd.ce.toNat := by decide
theorem witness_TextFound :
    let s := inRecord [3, 6, 0xD1, 1, 3, 0x54, 0, 0x68, 0x69] 5 0xD1 1 3
    s.ndd.idx.toNat + 1 + s.ndd.ridlen.toNat + 1 ≤ s.ndd.ce.toNat ∧
      Memory.read s.tb.cells (s.ndd.idx.toNat + 1 + s.ndd.ridlen.toNat) = some 0 ∧
      1 + (0 : Byte).toNat ≤ s.ndd.paylen.toNat ∧
      s.ndd.idx.toNat + 1 + s.ndd.ridlen.toNat + s.ndd.paylen.toNat ≤ s.ndd.ce.toNat := by decide
theorem witness_TextRejected :
    let s := inRecord [3, 5, 0xD1, 1, 1, 0x54, 1] 5 0xD1 1 1
    let u := inRecord [3, 4, 0xD1, 1, 0, 0x54] 5 0xD1 1 0
    (u.ndd.idx.toNat < u.ndd.ce.toNat ∧ u.ndd.paylen = 0) ∧
      s.ndd.idx.toNat < s.ndd.ce.toNat ∧ s.ndd.idx.toNat + 1 + s.ndd.ridlen.toNat + 1 ≤ s.ndd.ce.toNat ∧
      Memory.read s.tb.cells (s.ndd.idx.toNat + 1 + s.ndd.ridlen.toNat) = some 1 ∧
      s.ndd.paylen.toNat < 1 + (1 : Byte).toNat := by decide
theorem witness_TextTruncated :
    let u := inRecord [3, 9, 0xD1, 1, 5, 0x54] 5 0xD1 1 5
    let s := inRecord [3, 9, 0xD1, 1, 5, 0x54, 2, 0x65, 0x6E, 0x68] 5 0xD1 1 5
    (u.ndd.idx.toNat < u.ndd.ce.toNat ∧ u.ndd.paylen ≠ 0 ∧
        u.ndd.ce.toNat < u.ndd.idx.toNat + 1 + u.ndd.ridlen.toNat + 1) ∧
      s.ndd.idx.toNat < s.ndd.ce.toNat ∧ s.ndd.paylen ≠ 0 ∧
      s.ndd.idx.toNat + 1 + s.ndd.ridlen.toNat + 1 ≤ s.ndd.ce.toNat ∧
      Memory.read s.tb.cells (s.ndd.idx.toNat + 1 + s.ndd.ridlen.toNat) = some 2 ∧
      1 + (2 : Byte).toNat ≤ s.ndd.paylen.toNat ∧
      s.ndd.ce.toNat < s.ndd.idx.toNat + 1 + s.ndd.ridlen.toNat + s.ndd.paylen.toNat := by decide
theorem witness_CheckedCursor :
    let s := scanning hi 11 .readType
    s.ndd.idx.toNat ≤ s.ndd.ce.toNat ∧ s.ndd.ce.toNat < s.ndd.idx.toNat + 2 ∧
      s.ndd.idx.toNat + 1 ≤ s.ndd.ce.toNat ∧ Memory.readRange s.tb.cells s.ndd.idx.toNat 1 = some [0xFE] := by decide
theorem witness_CutFieldsEndTheScan :
    let s := scanning [0xFE, 0xFF, 1] 1 .readLength
    let u := { (scanning [3, 9, 0xC1, 1, 0, 0, 0] 2 .record) with ndd.msgend := 11 }
    let v := inRecord [3, 3, 0xD1, 1, 0] 5 0xD1 1 0
    (s.decoding ∧ s.valuedBelowCe ∧ s.ndd.idx.toNat ≤ s.ndd.ce.toNat ∧ s.ndd.dst = .readLength ∧
        Memory.read s.tb.cells s.ndd.idx.toNat = some 0xFF ∧ s.ndd.ce.toNat < s.ndd.idx.toNat + 3) ∧
      (u.decoding ∧ u.valuedBelowCe ∧ u.ndd.dst = .record ∧ u.ndd.inBody = false ∧
        u.ndd.idx.toNat < u.ndd.msgend.toNat ∧ u.ndd.idx.toNat < u.ndd.ce.toNat ∧
        Memory.read u.tb.cells u.ndd.idx.toNat = some 0xC1 ∧
        u.ndd.ce.toNat < u.ndd.idx.toNat + fixedPartSize 0xC1) ∧
      (v.decoding ∧ v.valuedBelowCe ∧ v.ndd.idx.toNat ≤ v.ndd.ce.toNat ∧ v.ndd.dst = .record ∧
        v.ndd.inBody = true ∧ v.ndd.idx = v.ndd.ce ∧ hdrTNF v.ndd.hdr = 1 ∧ v.ndd.typelen = 1) := by
  unfold State.decoding State.valuedBelowCe
  decide
theorem witness_ScanLoopTests :
    let s := scanning hi 12 .readType
    let u := scanning hi 11 .record
    (s.decoding ∧ s.ndd.dst = .readType ∧ s.ndd.ce.toNat ≤ s.ndd.idx.toNat) ∧
      (u.decoding ∧ u.ndd.dst = .record ∧ u.ndd.inBody = false ∧ u.ndd.msgend.toNat ≤ u.ndd.idx.toNat) ∧
      ((scanning hi 12 .done).decoding ∧ (scanning hi 12 .done).ndd.dst = .done) := by
  unfold State.decoding
  decide
theorem witness_DecoderReadsOnlyBelowCe :
    (scanning hi 1 .readLength).decoding ∧ (∃ t, step (scanning hi 1 .readLength) = .next t) ∧
      ∀ a, a < 12 → Memory.read ((scanning hi 1 .readLength).tb.cells ++ [(12, 0xFF)]) a =
        Memory.read (scanning hi 1 .readLength).tb.cells a := by
  refine ⟨by unfold State.decoding; decide, ⟨_, rfl⟩, by decide⟩
theorem witness_DecoderTouchesNothingElse :
    (scanning hi 1 .readLength).decoding ∧ ∃ t, step (scanning hi 1 .readLength) = .next t := by
  refine ⟨by unfold State.decoding; decide, ⟨_, rfl⟩⟩
theorem witness_TagBufferFormKept :
    let s := { (running 0x20 .check 1) with par.capAbove := 0, tpd.xbuf := pageAnswer }
    s.tagBufferInv ∧ ∃ t, step s = .next t := by
  refine ⟨by unfold State.tagBufferInv; decide, ⟨_, rfl⟩⟩
theorem witness_OneEngineRuns :
    (running 0x20 .check 1).engineInv ∧ (scanning hi 0 .readType).engineInv ∧
      ∃ t, step (running 0x20 .check 1) = .next t := by
  refine ⟨by unfold State.engineInv; decide, by unfold State.engineInv; decide, ⟨_, rfl⟩⟩
theorem witness_AttemptsCounted :
    (running 0x90 .gap 11).engineInv ∧ (running 0x90 .gap 11).attemptInv ∧
      ∃ t, step (running 0x90 .gap 11) = .next t := by
  refine ⟨by unfold State.engineInv; decide, ?_, ⟨_, rfl⟩⟩
  unfold State.attemptInv State.retryCounts State.singleCounts
  decide
theorem witness_CursorBounded :
    (scanning hi 11 .readType).engineInv ∧ (scanning hi 11 .readType).cursorInv ∧
      ∃ t, step (scanning hi 11 .readType) = .next t := by
  refine ⟨by unfold State.engineInv; decide, by unfold State.cursorInv; decide, ⟨_, rfl⟩⟩
theorem witness_DecodeResultContract :
    (inRecord hi 5 0xD1 1 5).engineInv ∧ (inRecord hi 5 0xD1 1 5).cursorInv ∧ (inRecord hi 5 0xD1 1 5).decodeInv ∧
      ∃ t, step (inRecord hi 5 0xD1 1 5) = .next t := by
  refine ⟨by unfold State.engineInv; decide, by unfold State.cursorInv; decide, ?_, ⟨_, rfl⟩⟩
  unfold State.decodeInv State.scanEnded
  decide
theorem witness_ResetHeld :
    { (accessing [.read 0x32]) with env.rst := true }.resetInv ∧
      ∃ t, step { (accessing [.read 0x32]) with env.rst := true } = .next t := by
  refine ⟨by unfold State.resetInv; decide, ⟨_, rfl⟩⟩
theorem witness_BusHeldDuringAttempt :
    { (answered 0x01 .write [.ok] []) with env.hist := [.busBegin] }.busInv ∧
      ∃ t, step { (answered 0x01 .write [.ok] []) with env.hist := [.busBegin] } = .next t := by
  refine ⟨by unfold State.busInv; decide, ⟨_, rfl⟩⟩
theorem witness_NothingStopsTheBlock :
    (scanning hi 11 .readType).tagBufferInv ∧ (scanning hi 11 .readType).engineInv ∧
      (scanning hi 11 .readType).cursorInv := by
  refine ⟨by unfold State.tagBufferInv; decide, by unfold State.engineInv; decide, ?_⟩
  unfold State.cursorInv
  decide
theorem witness_TagBufferWindow :
    let s := { (holding hi) with env.script := [.read 0x32], hif.tba := 11 }
    let u := { (holding hi) with env.script := [.read 0x32], hif.tba := 12 }
    (s.env.rst = false ∧ s.env.script = [.read 0x32] ∧ s.hif.busy = false ∧ s.hif.tba.toNat < s.tb.len.toNat ∧
        Memory.read s.tb.cells s.hif.tba.toNat = some 0xFE) ∧
      u.tb.len.toNat ≤ u.hif.tba.toNat ∧ (accessing [.write 0x30 0xFF]).env.script = [.write 0x30 0xFF] ∧
      (accessing [.write 0x31 0xFF]).env.script = [.write 0x31 0xFF] ∧
      (accessing [.read 0x30]).env.script = [.read 0x30] ∧ (accessing [.read 0x31]).env.script = [.read 0x31] ∧
      (accessing [.write 0x32 1]).env.script = [.write 0x32 1] := by decide
theorem witness_HostAccesses :
    let s := { (running 0x81 .write 1) with env.script := [.read 0x2A] }
    s.env.rst = false ∧ s.env.script = [.read 0x2A] ∧ s.hif.busy = true ∧ 0x03 ≤ (0x2A : Byte).toNat ∧
      (0x2A : Byte).toNat ≤ 0x2A ∧ 0x2B ≤ (0x2B : Byte).toNat ∧
      (accessing [.read 0x02]).env.script = [.read 0x02] ∧ (accessing [.read 0x2B]).env.script = [.read 0x2B] ∧
      (accessing [.write 0x01 4]).env.script = [.write 0x01 4] ∧
      (accessing [.write 0x02 4]).env.script = [.write 0x02 4] ∧
      (0x02 : Byte) ∉ [(0x00 : Byte), 0x01, 0x30, 0x31] := by decide
theorem witness_HostAccesses_map :
    let s := { (accessing [.read 0x19]) with tb.len := 0x1234, tpd.xbuf := tagAnswer, hif.res := .refused }
    (s.hif.busy = false ∧ ((0x19 : Byte).toNat, 0x12) ∈ s.registerMap) ∧
      ((0x18 : Byte).toNat, 0x34) ∈ s.registerMap ∧ ((0x2A : Byte).toNat, 0x44) ∈ s.registerMap ∧
      ((0x03 : Byte).toNat, 6) ∈ s.registerMap ∧ ((0x00 : Byte).toNat, 0) ∈ s.registerMap ∧
      goesTo (step s) (fun t => t.env.hostReads == [(0x19, 0x12)]) = true := by decide
theorem witness_ResetAbandonsTheOperation :
    let s := { (running 0x81 .read 1) with env.script := [.rst true] }
    s.env.script = [.rst true] ∧ s.hif.busy = true := by decide

end Sys2Proof.Tests
end

section
/-! The state after reset (R43), one equation per part of the state, and obligation O59. -/

namespace Sys2Proof.Machine

/-! ## The parts of the state after reset -/

@[simp] theorem State.reset_hif :
    State.reset.hif = ⟨0, 0, false, false, false, false, .none, .none, 0⟩ := rfl

@[simp] theorem State.reset_tpd :
    State.reset.tpd = ⟨0, 0, Frame.zero, Seven.zero, 0, 0, Seven.zero, 0, 0, .idle, 0, false⟩ := rfl

@[simp] theorem State.reset_tb : State.reset.tb = ⟨[], 0⟩ := rfl

@[simp] theorem State.reset_ndd :
    State.reset.ndd = ⟨0, 0, 0, 0, 0, 0, 0, 0, 0, 0, 0, 0, 0, .idle, false⟩ := rfl

/-! ## The views of it that are not registers of their own -/

/-- No byte of an empty TagBuffer holds a value. -/
@[simp] theorem Memory.read_nil (a : Nat) : Memory.read [] a = none := rfl

/-- `STATUS` is 0 when none of its four flags is set (R26). -/
theorem HostRegs.status_eq_zero {h : HostRegs} (busy : h.busy = false) (done : h.done = false)
    (badtxt : h.badtxt = false) (ovr : h.ovr = false) : h.status = 0 := by
  simp [HostRegs.status, busy, done, badtxt, ovr]

theorem State.reset_status : State.reset.hif.status = 0 := HostRegs.status_eq_zero rfl rfl rfl rfl

/-! ## The obligation -/

/-- Settles O59, from the four parts' values, `STATUS` with no flag set and the empty TagBuffer. -/
theorem resetValues : Obligations.ResetValues := by
  unfold Obligations.ResetValues
  refine ⟨State.reset_hif, ?code, ?cause, State.reset_status, ?registers⟩
  case code => simp only [State.reset_hif, Res.code]
  case cause => simp only [State.reset_hif, Cause.code]
  case registers =>
    simp only [State.reset_tpd, State.reset_tb, State.reset_ndd, Memory.read_nil, implies_true, and_self]

end Sys2Proof.Machine
end

section
/-! The big-endian fields of the TagBuffer's bytes (R101, R105, R106): what each field decodes to and what the element
decoded from it, run, leaves behind; obligations O7 and O6. -/

namespace Sys2Proof

/-! ## Big-endian fields as sums (R67) -/

/-- A byte put behind a word is its lowest 8 bits. -/
theorem toNat_append_byte {w : Nat} (x : BitVec w) (b : Byte) : (x ++ b).toNat = 256 * x.toNat + b.toNat := by
  rw [BitVec.toNat_append, ← Nat.shiftLeft_add_eq_or_of_lt b.isLt, Nat.shiftLeft_eq, Nat.mul_comm]

theorem be16_toNat (h l : Byte) : (be16 h l).toNat = 256 * h.toNat + l.toNat := toNat_append_byte h l

theorem be32_toNat (b0 b1 b2 b3 : Byte) : (be32 b0 b1 b2 b3).toNat =
    16777216 * b0.toNat + 65536 * b1.toNat + 256 * b2.toNat + b3.toNat := by
  simp only [be32, toNat_append_byte]
  omega

/-! ## The TLV length field (R101) -/

theorem decode_tlvLen_short {b : Byte} (rest : List Byte) (below : b ≠ 0xFF) :
    decode .tlvLen (b :: rest) = .ok (.lenShort b) :=
  if_neg below

theorem decode_tlvLen_ext (h l : Byte) (rest : List Byte) :
    decode .tlvLen (0xFF :: h :: l :: rest) = .ok (.lenExt (be16 h l)) := rfl

@[simp] theorem encode_lenShort_length (b : Byte) : (encode (.lenShort b)).length = 1 := rfl
@[simp] theorem encode_lenExt_length (v : Half) : (encode (.lenExt v)).length = 3 := rfl

/-! ## A record's fixed part (R103 to R107) -/

/-- A header byte is made of its flags, `SR` and `IL`: no bit of it is lost (R104). -/
theorem headerByte_recFlagsOf {hdr : Byte} {sr il : Bool} (hsr : hdrSR hdr = sr) (hil : hdrIL hdr = il) :
    headerByte (recFlagsOf hdr) sr il = hdr := by
  subst hsr hil
  apply BitVec.eq_of_getLsbD_eq
  intro i hi
  simp only [headerByte, recFlagsOf, hdrSR, hdrIL, BitVec.getLsbD_append, BitVec.getLsbD_ofBool,
    BitVec.getLsbD_extractLsb']
  interval_cases i <;> simp

section
variable {hdr : Byte} (tl p0 p1 p2 p3 il : Byte) (rest : List Byte)

theorem decode_ndefRec_short (hsr : hdrSR hdr = true) (hil : hdrIL hdr = false) :
    decode .ndefRec (hdr :: tl :: p0 :: rest) = .ok (.recSr (recFlagsOf hdr) tl p0) := by
  simp only [decode, decodeNdefRec, hsr, hil, decodeRecTail]

theorem decode_ndefRec_shortId (hsr : hdrSR hdr = true) (hil : hdrIL hdr = true) :
    decode .ndefRec (hdr :: tl :: p0 :: il :: rest) = .ok (.recSrIl (recFlagsOf hdr) tl p0 il) := by
  simp only [decode, decodeNdefRec, hsr, hil, decodeRecTail]

theorem decode_ndefRec_long (hsr : hdrSR hdr = false) (hil : hdrIL hdr = false) :
    decode .ndefRec (hdr :: tl :: p0 :: p1 :: p2 :: p3 :: rest) =
      .ok (.recLong (recFlagsOf hdr) tl (be32 p0 p1 p2 p3)) := by
  simp only [decode, decodeNdefRec, hsr, hil, decodeRecTail]

theorem decode_ndefRec_longId (hsr : hdrSR hdr = false) (hil : hdrIL hdr = true) :
    decode .ndefRec (hdr :: tl :: p0 :: p1 :: p2 :: p3 :: il :: rest) =
      .ok (.recLongIl (recFlagsOf hdr) tl (be32 p0 p1 p2 p3) il) := by
  simp only [decode, decodeNdefRec, hsr, hil, decodeRecTail]

end

end Sys2Proof

namespace Sys2Proof.Machine

/-! ## The four record layouts, run on the flags of a header byte (R196) -/

/-- The cursor of `ReadRecordHeader`, as a register addition. -/
theorem State.readHeader_idx_eq_add (s : State) (n : Nat) (h tl : Byte) (p : BitVec 32) (i : Byte) :
    (s.readHeader n h tl p i).ndd.idx = s.ndd.idx + BitVec.ofNat 16 n := by
  rw [State.readHeader_ndd_idx, BitVec.ofNat_add, BitVec.ofNat_toNat, BitVec.setWidth_eq]

section
variable {hdr : Byte} (tl il : Byte) (s : State)

theorem exec_recSr_recFlagsOf (p : Byte) (hsr : hdrSR hdr = true) (hil : hdrIL hdr = false) :
    exec (.recSr (recFlagsOf hdr) tl p) s = .next (s.readHeader 3 hdr tl (p.setWidth 32) 0) := by
  simp only [exec, execRecSr, headerByte_recFlagsOf hsr hil]

theorem exec_recSrIl_recFlagsOf (p : Byte) (hsr : hdrSR hdr = true) (hil : hdrIL hdr = true) :
    exec (.recSrIl (recFlagsOf hdr) tl p il) s = .next (s.readHeader 4 hdr tl (p.setWidth 32) il) := by
  simp only [exec, execRecSrIl, headerByte_recFlagsOf hsr hil]

theorem exec_recLong_recFlagsOf (p : BitVec 32) (hsr : hdrSR hdr = false) (hil : hdrIL hdr = false) :
    exec (.recLong (recFlagsOf hdr) tl p) s = .next (s.readHeader 6 hdr tl p 0) := by
  simp only [exec, execRecLong, headerByte_recFlagsOf hsr hil]

theorem exec_recLongIl_recFlagsOf (p : BitVec 32) (hsr : hdrSR hdr = false) (hil : hdrIL hdr = true) :
    exec (.recLongIl (recFlagsOf hdr) tl p il) s = .next (s.readHeader 7 hdr tl p il) := by
  simp only [exec, execRecLongIl, headerByte_recFlagsOf hsr hil]

end

/-! ## The obligations -/

/-- Settles O7: in each of the four layouts the decoded element, run, is `ReadRecordHeader` with the header byte put
together again, and the long form's payload length is the sum of its four bytes. -/
theorem payloadAndIdLength : Obligations.PayloadAndIdLength := by
  unfold Obligations.PayloadAndIdLength
  intro hdr tl p0 p1 p2 p3 il rest s
  have oneByte : (p0.setWidth 32).toNat = p0.toNat := BitVec.toNat_setWidth_of_le (by decide)
  refine ⟨fun sr idl => ?short, fun sr idl => ?shortId, fun sr idl => ?long, fun sr idl => ?longId⟩
  case short =>
    exact ⟨_, _, decode_ndefRec_short tl p0 rest sr idl, exec_recSr_recFlagsOf tl s p0 sr idl,
      rfl, rfl, oneByte, rfl, s.readHeader_idx_eq_add 3 ..⟩
  case shortId =>
    exact ⟨_, _, decode_ndefRec_shortId tl p0 il rest sr idl, exec_recSrIl_recFlagsOf tl il s p0 sr idl,
      rfl, rfl, oneByte, rfl, s.readHeader_idx_eq_add 4 ..⟩
  case long =>
    exact ⟨_, _, decode_ndefRec_long tl p0 p1 p2 p3 rest sr idl, exec_recLong_recFlagsOf tl s _ sr idl,
      rfl, rfl, be32_toNat p0 p1 p2 p3, rfl, s.readHeader_idx_eq_add 6 ..⟩
  case longId =>
    exact ⟨_, _, decode_ndefRec_longId tl p0 p1 p2 p3 il rest sr idl, exec_recLongIl_recFlagsOf tl il s _ sr idl,
      rfl, rfl, be32_toNat p0 p1 p2 p3, rfl, s.readHeader_idx_eq_add 7 ..⟩

/-- Settles O6, by the two forms of the field: `FF` tells them apart. -/
theorem tlvLengthField : Obligations.TlvLengthField := by
  unfold Obligations.TlvLengthField
  refine ⟨fun b rest below => ?oneByte, fun h l rest => ?threeBytes⟩
  case oneByte => exact ⟨decode_tlvLen_short rest below, encode_lenShort_length b⟩
  case threeBytes => exact ⟨be16 h l, decode_tlvLen_ext h l rest, be16_toNat h l, encode_lenExt_length _⟩

end Sys2Proof.Machine
end

section
/-! The host's access to the TagBuffer (R162, R163): an operation that ends as it is accepted, the append of a byte as
the TagBuffer's readers see it; obligations O15 and O14. -/

namespace Sys2Proof.Machine

/-! ## An operation that ends as it is accepted (R90, R233) -/

/-- With both units idle, the end of an operation writes four of the host's registers alone. -/
theorem State.endWith_of_idle (s : State) (r : Res) (c : Cause) (tst : s.tpd.tst = .idle) (dst : s.ndd.dst = .idle) :
    s.endWith r c = { s with hif.busy := false, hif.done := true, hif.res := r, hif.cause := c } := by
  have sameTpd : { s.tpd with tst := .idle } = s.tpd := by rw [← tst]
  have sameNdd : { s.ndd with dst := .idle } = s.ndd := by rw [← dst]
  simp only [State.endWith, State.setResult, State.complete, sameTpd, sameNdd]

/-! ## The append of a byte (R62) -/

/-- `TB_LEN` does not wrap below the capacity (R13). -/
theorem State.tbPush_len_toNat (s : State) (b : Byte) (room : s.tb.len.toNat < s.par.cap.toNat) :
    (s.tbPush b).tb.len.toNat = s.tb.len.toNat + 1 := by
  have capFits := s.par.cap.isLt
  rw [State.tbPush_tb_len]
  exact BitVec.toNat_add_of_lt (show s.tb.len.toNat + 1 < 2 ^ 16 by omega)

theorem State.read_tbPush (s : State) (b : Byte) (a : Nat) :
    Memory.read (s.tbPush b).tb.cells a = if a = s.tb.len.toNat then some b else Memory.read s.tb.cells a :=
  Memory.read_write _ _ _ _

/-! ## `TBCLR` and `TBAPP` on a block that is not busy -/

theorem exec_tbclr {s : State} (free : s.hif.busy = false) :
    exec .tbclr s = .next ((s.accept 0x40).tbClear.endWith .ok .none) := by
  change execTbclr s = _
  rw [execTbclr, s.request_idle _ _ free]

theorem exec_tbapp {s : State} (b : Byte) (free : s.hif.busy = false) :
    exec (.tbapp b) s = .next (
      if s.par.cap.toNat ≤ s.tb.len.toNat then (s.accept 0x41).endWith .refused .cap
      else ((s.accept 0x41).tbPush b).endWith .ok .none) := by
  change execTbapp b s = _
  rw [execTbapp, s.request_idle _ _ free, State.accept_par, State.accept_tb]

theorem exec_tbapp_room {s : State} (b : Byte) (free : s.hif.busy = false)
    (room : s.tb.len.toNat < s.par.cap.toNat) :
    exec (.tbapp b) s = .next (((s.accept 0x41).tbPush b).endWith .ok .none) := by
  rw [exec_tbapp b free, if_neg (Nat.not_le.mpr room)]

theorem exec_tbapp_full {s : State} (b : Byte) (free : s.hif.busy = false)
    (full : s.par.cap.toNat ≤ s.tb.len.toNat) :
    exec (.tbapp b) s = .next ((s.accept 0x41).endWith .refused .cap) := by
  rw [exec_tbapp b free, if_pos full]

/-! ## The obligations -/

/-- Settles O15: the capacity test tells the append, which `State.read_tbPush` and `State.tbPush_len_toNat` describe,
from the refusal, which ends the accepted operation as it stands. -/
theorem tbappAppendsOneByte : Obligations.TbappAppendsOneByte := by
  unfold Obligations.TbappAppendsOneByte
  intro b s free tst dst
  refine ⟨fun room => ?append, fun full => ?refuse⟩
  case append =>
    refine ⟨_, exec_tbapp_room b free room, ?frame, ?length, ?bytes⟩
    case frame => exact ((s.accept 0x41).tbPush b).endWith_of_idle .ok .none tst dst
    case length => exact (s.accept 0x41).tbPush_len_toNat b room
    case bytes => exact (s.accept 0x41).read_tbPush b
  case refuse =>
    rw [exec_tbapp_full b free full, (s.accept 0x41).endWith_of_idle .refused .cap tst dst]
    rfl

/-- Settles O14: the accepted operation ends on the emptied TagBuffer, with both units idle. -/
theorem tbclrEmptiesTheTagBuffer : Obligations.TbclrEmptiesTheTagBuffer := by
  unfold Obligations.TbclrEmptiesTheTagBuffer
  intro s free tst dst
  rw [exec_tbclr free, (s.accept 0x40).tbClear.endWith_of_idle .ok .none tst dst]
  rfl

end Sys2Proof.Machine
end

section
/-! `ReadType` (R176): the cursor behind a type byte and what the read leaves as it was; obligation O33. -/

namespace Sys2Proof.Machine

/-! ## A type byte read below `CE` (R176) -/

/-- `IDX` does not wrap: it is below `CE`, itself a 16-bit register (R16). -/
theorem State.readType_idx_toNat (s : State) (t : Byte) (next : Dst) (below : s.ndd.idx.toNat < s.ndd.ce.toNat) :
    (s.readType t next).ndd.idx.toNat = s.ndd.idx.toNat + 1 := by
  have ceFits := s.ndd.ce.isLt
  rw [State.readType_ndd_idx]
  exact BitVec.toNat_add_of_lt (show s.ndd.idx.toNat + 1 < 2 ^ 16 by omega)

/-- The frame of `ReadType`: `TLV_T`, `IDX` and the decoder's state are all it writes. -/
theorem State.readType_frame (s : State) (t : Byte) (next : Dst) :
    s.readType t next =
      { s with ndd.tlvT := t, ndd.idx := (s.readType t next).ndd.idx, ndd.dst := next } := rfl

/-- A NULL block is its type byte alone: behind it the next type byte is read, not a length (R177). -/
theorem exec_tlvNull (s : State) : exec .tlvNull s = .next (s.readType 0x00 .readType) := rfl

/-! ## The obligation -/

/-- Settles O33: the block is one `ReadType`, whose frame and cursor are known. -/
theorem tlvNullTakesItsByte : Obligations.TlvNullTakesItsByte := by
  unfold Obligations.TlvNullTakesItsByte
  intro s below
  exact ⟨_, exec_tlvNull s, s.readType_frame 0x00 .readType, s.readType_idx_toNat 0x00 .readType below⟩

end Sys2Proof.Machine
end

section
/-! The sticky flag `OVR` (R26, R229): a request on a busy block sets it and does nothing else, and every step but a
reset keeps it; obligation O12. -/

namespace Sys2Proof.Machine

/-! ## Operations that leave `OVR` alone

One lemma for each shared operation that Laws/State.lean does not already give an equation for. -/

section
variable (s : State)

@[simp] theorem State.tbAppend_hif (bs : List Byte) : (s.tbAppend bs).hif = s.hif := by
  rw [State.tbAppend_frame]

@[simp] theorem State.lengthCut_hif_ovr : s.lengthCut.hif.ovr = s.hif.ovr := by
  unfold State.lengthCut
  split <;> simp

@[simp] theorem State.textBody_hif_ovr : s.textBody.hif.ovr = s.hif.ovr := by
  obtain ⟨-, rejected⟩ | ⟨-, -, cut⟩ | ⟨-, -, found⟩ := s.textBody_cases
  · rw [rejected, State.rejectRecord_hif_ovr]
  · rw [cut, State.exhaust_hif_ovr]
  · rw [found, State.raiseFound_hif_ovr]

@[simp] theorem State.beginPage_hif_ovr (p : Byte) : (s.beginPage p).hif.ovr = s.hif.ovr := by
  obtain ⟨-, full⟩ | ⟨-, room⟩ := s.beginPage_cases p
  · rw [full, State.endWith_hif_ovr]
  · rw [room, State.beginTries_hif]

@[simp] theorem State.loopAppend_hif_ovr : s.loopAppend.hif.ovr = s.hif.ovr := by
  obtain ⟨-, last⟩ | ⟨-, more⟩ := s.loopAppend_cases
  · rw [last, State.endWith_hif_ovr, State.tbAppend_hif]
  · rw [more, State.beginPage_hif_ovr, State.tbAppend_hif]

@[simp] theorem State.afterSuccess_hif_ovr : s.afterSuccess.hif.ovr = s.hif.ovr := by
  unfold State.afterSuccess
  split <;> simp

@[simp] theorem State.afterFailure_hif_ovr : s.afterFailure.hif.ovr = s.hif.ovr := by
  obtain ⟨-, -, again⟩ | ⟨-, -, looped⟩ | ⟨-, -, ended⟩ := s.afterFailure_cases
  · rw [again]
  · rw [looped, State.endWith_hif_ovr]
  · rw [ended, State.complete_hif_ovr]

@[simp] theorem State.failResults_hif_ovr (c : Cause) : (s.failResults c).hif.ovr = s.hif.ovr := by
  unfold State.failResults
  split <;> rfl

@[simp] theorem State.okResults_hif_ovr (f : Frame) (n : Nat) : (s.okResults f n).hif.ovr = s.hif.ovr := by
  unfold State.okResults
  split <;> rfl

@[simp] theorem State.raiseAttempt_hif_ovr (c : Cause) : (s.raiseAttempt c).hif.ovr = s.hif.ovr := by
  simp [State.raiseAttempt]

/-! ## Bus primitives and the moves of an attempt (R130, R131) -/

/-- Stuck or not, what follows a primitive is all that could write `OVR`. -/
theorem State.unlessStuck_hif_ovr {k : State → State} (follows : ∀ t, (k t).hif.ovr = t.hif.ovr) :
    (s.unlessStuck k).hif.ovr = s.hif.ovr := by
  unfold State.unlessStuck
  split
  · rfl
  · exact follows s

theorem State.perform_hif_ovr (e : BusEvent) {k : State → State} (follows : ∀ t, (k t).hif.ovr = t.hif.ovr) :
    (s.perform e k).hif.ovr = s.hif.ovr :=
  (s.issue e).unlessStuck_hif_ovr follows

@[simp] theorem State.sendCommand_hif_ovr (image : Frame) : (s.sendCommand image).hif.ovr = s.hif.ovr :=
  State.perform_hif_ovr _ _ fun t => t.perform_hif_ovr _ fun _ => rfl

theorem State.moveWrite_hif_ovr : s.moveWrite.hif.ovr = s.hif.ovr := by
  unfold State.moveWrite
  split
  · rfl
  · rfl
  · exact State.perform_hif_ovr _ _ fun t => t.raiseAttempt_hif_ovr .busWrite

theorem State.moveSettle_hif_ovr : s.moveSettle.hif.ovr = s.hif.ovr :=
  s.perform_hif_ovr _ fun _ => rfl

theorem State.moveRead_hif_ovr : s.moveRead.hif.ovr = s.hif.ovr := by
  unfold State.moveRead
  split
  · rfl
  · exact State.perform_hif_ovr _ _ fun _ => rfl
  · exact State.perform_hif_ovr _ _ fun _ => State.raiseAttempt_hif_ovr _ .busRead

theorem State.moveGap_hif_ovr : s.moveGap.hif.ovr = s.hif.ovr :=
  s.perform_hif_ovr _ fun _ => rfl

theorem State.hostWrite_hif_ovr (a v : Byte) : (s.hostWrite a v).hif.ovr = s.hif.ovr := by
  unfold State.hostWrite
  split_ifs <;> rfl

end

/-! ## Outcomes with `OVR` set -/

/-- If the machine goes on from `o`, then with `OVR` set. -/
def OvrSetIn (o : Outcome) : Prop := ∀ t, o = .next t → t.hif.ovr = true

@[simp] theorem ovrSetIn_next {t : State} : OvrSetIn (.next t) ↔ t.hif.ovr = true := by
  simp [OvrSetIn]

@[simp] theorem ovrSetIn_fault (r : Fault) : OvrSetIn (.fault r) := by
  simp [OvrSetIn]

theorem ovrSetIn_ite {p : Prop} [Decidable p] {o₁ o₂ : Outcome} (yes : OvrSetIn o₁) (no : OvrSetIn o₂) :
    OvrSetIn (if p then o₁ else o₂) := by
  split
  · exact yes
  · exact no

/-! ## A host request (R90, R229) -/

/-- Every host operation is a request: it differs from the others only in its code and in what it starts, and what it
starts leaves `OVR` alone. -/
theorem exec_hostReq_eq_request {i : Instr} (hostReq : i.format = some .hostReq) :
    ∃ (op : Byte) (start : State → State),
      (∀ s, exec i s = s.request op start) ∧ ∀ s, (start s).hif.ovr = s.hif.ovr := by
  cases i with
  | sel => exact ⟨_, _, execSel.eq_def, fun _ => rfl⟩
  | selr => exact ⟨_, _, execSelr.eq_def, fun _ => rfl⟩
  | rdp page => exact ⟨_, _, execRdp.eq_def page, fun _ => rfl⟩
  | rdpr page => exact ⟨_, _, execRdpr.eq_def page, fun _ => rfl⟩
  | rdt => exact ⟨_, _, execRdt.eq_def, fun s => s.tbClear.beginPage_hif_ovr _⟩
  | rdtr => exact ⟨_, _, execRdtr.eq_def, fun s => s.tbClear.beginPage_hif_ovr _⟩
  | dec => exact ⟨_, _, execDec.eq_def, fun _ => rfl⟩
  | tbclr => exact ⟨_, _, execTbclr.eq_def, fun _ => rfl⟩
  | tbapp b => exact ⟨_, _, execTbapp.eq_def b, fun s => by split <;> rfl⟩
  | undefinedOp op => exact ⟨_, _, execUndefinedOp.eq_def op, fun _ => rfl⟩
  | _ => cases hostReq

/-- On a busy block a host request is the overrun, whatever its code (R229). -/
theorem exec_hostReq_busy {i : Instr} {s : State} (hostReq : i.format = some .hostReq) (busy : s.hif.busy = true) :
    exec i s = .next s.overrun := by
  obtain ⟨op, start, isRequest, -⟩ := exec_hostReq_eq_request hostReq
  rw [isRequest, s.request_busy op start busy]

theorem exec_hostReq_ovrSet {i : Instr} {s : State} (hostReq : i.format = some .hostReq) (ovr : s.hif.ovr = true) :
    OvrSetIn (exec i s) := by
  obtain ⟨op, start, isRequest, startKeeps⟩ := exec_hostReq_eq_request hostReq
  intro t run
  rw [isRequest] at run
  obtain ⟨-, rfl⟩ | ⟨-, rfl⟩ := s.request_cases t op start run
  · exact s.overrun_hif_ovr
  · rw [startKeeps, State.accept_hif_ovr, ovr]

/-! ## Every instruction keeps `OVR` set -/

section
variable {s : State} (ovr : s.hif.ovr = true)
include ovr

theorem execResp_ovrSet (f : Frame) : OvrSetIn (execResp f s) := by
  unfold execResp
  split <;> simp [ovr]

theorem execRecText_ovrSet : OvrSetIn (execRecText s) := by
  unfold execRecText
  extract_lets _ t
  have skipped : t.hif.ovr = true := ovr
  split
  case isTrue => simp [skipped]
  case isFalse =>
    obtain ⟨-, cut⟩ | ⟨-, ⟨bs, -, taken⟩ | ⟨-, noValue⟩⟩ := t.take_cases 1
    · simp [cut, skipped]
    · simp [taken, skipped]
    · simp [noValue]

theorem exec_ovrSet (i : Instr) : OvrSetIn (exec i s) := by
  cases i with
  | sel | selr | rdp | rdpr | rdt | rdtr | dec | tbclr | tbapp | undefinedOp => exact exec_hostReq_ovrSet rfl ovr
  | selectTag => exact ovrSetIn_next.mpr ((s.sendCommand_hif_ovr _).trans ovr)
  | readPage => exact ovrSetIn_next.mpr ((State.sendCommand_hif_ovr _ _).trans ovr)
  | resp f => exact execResp_ovrSet ovr f
  | tlvNdef | tlvTerminator | tlvOpaque =>
    -- Acted on at dispatch, or its type byte read (R176).
    exact ovrSetIn_ite (ovrSetIn_next.mpr ovr) (ovrSetIn_next.mpr ovr)
  | recText => exact execRecText_ovrSet ovr
  | tlvNull | lenShort | lenExt | recSr | recSrIl | recLong | recLongIl | recOther => exact ovrSetIn_next.mpr ovr
  | tbload | readid | dump | readtext => exact ovrSetIn_next.mpr ovr

theorem refusedElement_ovrSet (f : Format) : OvrSetIn (refusedElement f s) := by
  cases f <;> simp [refusedElement, ovr]

end

/-! ## What is fetched with `OVR` set -/

/-- The element fetched runs in a state with `OVR` set, or the move made keeps it set. -/
def Fetched.ovrSet : Fetched → Prop
  | .element _ _ t => t.hif.ovr = true
  | .move o => OvrSetIn o

@[simp] theorem Fetched.ovrSet_element {f : Format} {bs : List Byte} {t : State} :
    (Fetched.element f bs t).ovrSet ↔ t.hif.ovr = true := Iff.rfl

@[simp] theorem Fetched.ovrSet_move {o : Outcome} : (Fetched.move o).ovrSet ↔ OvrSetIn o := Iff.rfl

section
variable {s : State} (ovr : s.hif.ovr = true)
include ovr

theorem State.fetchWindow_ovrSet (f : Format) (n : Nat) : (s.fetchWindow f n).ovrSet := by
  unfold State.fetchWindow
  split <;> simp [ovr]

theorem State.fetchClass_ovrSet : s.fetchClass.ovrSet := by
  unfold State.fetchClass
  split <;> simp [ovr]

theorem State.fetchDecoder_ovrSet : s.fetchDecoder.ovrSet := by
  unfold State.fetchDecoder
  cases s.ndd.dst with
  | readType => dsimp only; split <;> simp [State.fetchWindow_ovrSet, ovr]
  | record => dsimp only; split_ifs <;> simp [State.fetchWindow_ovrSet, State.fetchClass_ovrSet, ovr]
  | readLength => exact State.fetchWindow_ovrSet ovr .tlvLen 3
  | idle | dispatch | done => simp [ovr]

theorem State.fetchEngine_ovrSet : s.fetchEngine.ovrSet := by
  have awaiting {k : State → State} (keeps : ∀ t, (k t).hif.ovr = t.hif.ovr) :
      (Fetched.move (.next (s.unlessStuck k))).ovrSet :=
    ovrSetIn_next.mpr ((s.unlessStuck_hif_ovr keeps).trans ovr)
  unfold State.fetchEngine
  split
  case isFalse => simp [ovr]
  case isTrue =>
    cases s.tpd.tst with
    | idle => exact State.fetchDecoder_ovrSet ovr
    | build | check => exact ovr
    | write => exact awaiting State.moveWrite_hif_ovr
    | settle => exact awaiting State.moveSettle_hif_ovr
    | read => exact awaiting State.moveRead_hif_ovr
    | gap => exact awaiting State.moveGap_hif_ovr

theorem State.readTbd_ovrSet : OvrSetIn s.readTbd := by
  unfold State.readTbd
  split
  · simp [ovr]
  · split <;> simp [ovr]

theorem State.hostRead_ovrSet (a : Byte) : OvrSetIn (s.hostRead a) :=
  ovrSetIn_ite (State.readTbd_ovrSet ovr) (ovrSetIn_ite (ovrSetIn_next.mpr ovr) (ovrSetIn_next.mpr ovr))

theorem State.issueRequest_ovrSet (w : BitVec 16) : (s.issueRequest w).ovrSet := by
  unfold State.issueRequest
  split <;> exact ovr

/-- Out of reset, only the host's access that asserts `rst` could clear `OVR`. -/
theorem State.fetchRunning_ovrSet (noReset : ∀ rest, s.env.script ≠ .rst true :: rest) : s.fetchRunning.ovrSet := by
  unfold State.fetchRunning
  cases script : s.env.script with
  | nil => exact State.fetchEngine_ovrSet ovr
  | cons access rest =>
    cases access with
    | pause => exact State.fetchEngine_ovrSet ovr
    | rst asserted =>
      cases asserted with
      | true => exact absurd script (noReset rest)
      | false => exact ovrSetIn_next.mpr ovr
    | read a => exact State.hostRead_ovrSet (s := { s with env.script := rest }) ovr a
    | write a v =>
      dsimp only
      split
      · exact ovr
      · exact ovrSetIn_next.mpr ((State.hostWrite_hif_ovr _ a v).trans ovr)
    | request w =>
      dsimp only
      split
      · exact State.fetchEngine_ovrSet ovr
      · exact State.issueRequest_ovrSet (s := { s with env.script := rest }) ovr w

/-- Every step keeps `OVR` set but one under `rst` or one that takes the host's asserting of it (R229, R250). -/
theorem step_ovrSet (released : s.env.rst = false) (noReset : ∀ rest, s.env.script ≠ .rst true :: rest) :
    OvrSetIn (step s) := by
  have fetched : s.fetch.ovrSet := by
    rw [State.fetch, released]
    exact State.fetchRunning_ovrSet ovr noReset
  obtain ⟨o, isMove, run⟩ | ⟨f, bs, t, i, isElement, -, run⟩ | ⟨f, bs, t, e, isElement, -, run⟩ := step_cases s
  · rw [isMove] at fetched
    rw [run]
    exact fetched
  · rw [isElement] at fetched
    rw [run]
    exact exec_ovrSet fetched i
  · rw [isElement] at fetched
    rw [run]
    exact refusedElement_ovrSet fetched f

end

/-! ## The obligation -/

/-- Settles O12: a request on a busy block is the overrun, and without `rst` asserted or about to be, a step leads to no
state with `OVR` clear. -/
theorem overrunDropsTheWrite : Obligations.OverrunDropsTheWrite := by
  unfold Obligations.OverrunDropsTheWrite
  refine ⟨fun i s hostReq busy => ?dropped, fun s t ovr run cleared => ?sticky⟩
  case dropped => exact exec_hostReq_busy hostReq busy
  case sticky =>
    by_contra noReset
    obtain ⟨notHeld, notNext⟩ := not_or.mp noReset
    have stands : t.hif.ovr = true :=
      step_ovrSet ovr (Bool.eq_false_of_not_eq_true notHeld) (not_exists.mp notNext) t run
    exact absurd (stands.symm.trans cleared) (by decide)

end Sys2Proof.Machine
end

section
/-! The encoding (spec/30_encoding.md): what each format decodes to, said once as an equation and once as an inversion
lemma; obligations O1, O2, O3, O4, O5 and O16. -/

namespace Sys2Proof

/-! ## Fields of words taken apart and put together (R67, R104) -/

theorem be16_split (v : Half) : be16 (v.extractLsb' 8 8) (v.extractLsb' 0 8) = v := by
  apply BitVec.eq_of_toNat_eq
  have fits := v.isLt
  simp only [be16_toNat, BitVec.extractLsb'_toNat, Nat.shiftRight_eq_div_pow]
  omega

theorem be32_split (v : BitVec 32) :
    be32 (v.extractLsb' 24 8) (v.extractLsb' 16 8) (v.extractLsb' 8 8) (v.extractLsb' 0 8) = v := by
  apply BitVec.eq_of_toNat_eq
  have fits := v.isLt
  simp only [be32_toNat, BitVec.extractLsb'_toNat, Nat.shiftRight_eq_div_pow]
  omega

/-- A byte is told by its number. -/
theorem byte_eq_of_toNat {x y : Byte} (h : x.toNat = y.toNat) : x = y := BitVec.eq_of_toNat_eq h

theorem be16Bytes_be16 (h l : Byte) : be16Bytes (be16 h l) = [h, l] := by
  have hFits := h.isLt
  have lFits := l.isLt
  simp only [be16Bytes, List.cons.injEq, and_true]
  constructor <;> apply byte_eq_of_toNat <;>
    simp only [BitVec.extractLsb'_toNat, be16_toNat, Nat.shiftRight_eq_div_pow] <;> omega

theorem be32Bytes_be32 (a b c d : Byte) : be32Bytes (be32 a b c d) = [a, b, c, d] := by
  have aFits := a.isLt
  have bFits := b.isLt
  have cFits := c.isLt
  have dFits := d.isLt
  simp only [be32Bytes, List.cons.injEq, and_true]
  refine ⟨?_, ?_, ?_, ?_⟩ <;> apply byte_eq_of_toNat <;>
    simp only [BitVec.extractLsb'_toNat, be32_toNat, Nat.shiftRight_eq_div_pow] <;> omega

section
variable (f : RecFlags) (sr il : Bool)

@[simp] theorem hdrSR_headerByte : hdrSR (headerByte f sr il) = sr := by
  simp only [hdrSR, headerByte, BitVec.getLsbD_append]; simp

@[simp] theorem hdrIL_headerByte : hdrIL (headerByte f sr il) = il := by
  simp only [hdrIL, headerByte, BitVec.getLsbD_append]; simp

@[simp] theorem recFlagsOf_headerByte : recFlagsOf (headerByte f sr il) = f := by
  obtain ⟨mb, me, cf, tnf⟩ := f
  simp only [recFlagsOf, RecFlags.mk.injEq]
  refine ⟨?_, ?_, ?_, ?_⟩
  · simp only [headerByte, BitVec.getLsbD_append]; simp
  · simp only [headerByte, BitVec.getLsbD_append]; simp
  · simp only [headerByte, BitVec.getLsbD_append]; simp
  · exact BitVec.extractLsb'_append_eq_right
end

/-! ## Host requests (R90 to R92) -/

/-- A code that is none of the nine falls through to the undefined operation. -/
theorem decodeHostReq_undefined {op : Byte} (arg : Byte) (undefined : op ∉ definedOps) :
    decodeHostReq op arg = .undefinedOp op := by
  simp only [definedOps, List.mem_cons, List.not_mem_nil, or_false, not_or] at undefined
  obtain ⟨sel, selr, rdp, rdpr, rdt, rdtr, dec, tbclr, tbapp⟩ := undefined
  simp only [decodeHostReq, sel, selr, rdp, rdpr, rdt, rdtr, dec, tbclr, tbapp, if_false]

/-- What a request word can be. -/
theorem decodeHostReq_cases (op arg : Byte) :
    (op ∉ definedOps ∧ decodeHostReq op arg = .undefinedOp op) ∨
      decodeHostReq op arg ∈
        [.sel, .selr, .rdp arg, .rdpr arg, .rdt, .rdtr, .dec, .tbclr, .tbapp arg] := by
  by_cases defined : op ∈ definedOps
  · refine .inr ?_
    simp only [definedOps, List.mem_cons, List.not_mem_nil, or_false] at defined
    obtain rfl | rfl | rfl | rfl | rfl | rfl | rfl | rfl | rfl := defined <;> simp [decodeHostReq]
  · exact .inl ⟨defined, decodeHostReq_undefined arg defined⟩

theorem decodeHostReq_format (op arg : Byte) : (decodeHostReq op arg).format = some .hostReq := by
  obtain ⟨-, undefined⟩ | defined := decodeHostReq_cases op arg
  · rw [undefined]; rfl
  · simp only [List.mem_cons, List.not_mem_nil, or_false] at defined
    obtain h | h | h | h | h | h | h | h | h := defined <;> rw [h] <;> rfl

theorem decodeHostReq_wellFormed (op arg : Byte) : (decodeHostReq op arg).wellFormed = true := by
  obtain ⟨outside, undefined⟩ | defined := decodeHostReq_cases op arg
  · simpa [undefined, Instr.wellFormed] using outside
  · simp only [List.mem_cons, List.not_mem_nil, or_false] at defined
    obtain h | h | h | h | h | h | h | h | h := defined <;> rw [h] <;> rfl

/-! ## TLV types (R102) -/

theorem decodeTlvType_opaque {t : Byte} (null : t ≠ Config.tlvNull) (ndef : t ≠ Config.tlvNdef)
    (term : t ≠ Config.tlvTerm) : decodeTlvType t = .tlvOpaque t := by
  simp only [decodeTlvType, null, ndef, term, if_false]

/-- What a type byte can be. -/
theorem decodeTlvType_cases (t : Byte) :
    (t = Config.tlvNull ∧ decodeTlvType t = .tlvNull) ∨ (t = Config.tlvNdef ∧ decodeTlvType t = .tlvNdef) ∨
      (t = Config.tlvTerm ∧ decodeTlvType t = .tlvTerminator) ∨
      (t ≠ Config.tlvNull ∧ t ≠ Config.tlvNdef ∧ t ≠ Config.tlvTerm ∧ decodeTlvType t = .tlvOpaque t) := by
  by_cases null : t = Config.tlvNull
  · subst null; exact .inl ⟨rfl, rfl⟩
  by_cases ndef : t = Config.tlvNdef
  · subst ndef; exact .inr (.inl ⟨rfl, rfl⟩)
  by_cases term : t = Config.tlvTerm
  · subst term; exact .inr (.inr (.inl ⟨rfl, rfl⟩))
  · exact .inr (.inr (.inr ⟨null, ndef, term, decodeTlvType_opaque null ndef term⟩))

/-! ## What bytes that decode look like, one lemma per format -/

section
variable {bs : List Byte} {i : Instr}

theorem decode_hostReq_ok (h : decode .hostReq bs = .ok i) :
    ∃ op arg rest, bs = op :: arg :: rest ∧ i = decodeHostReq op arg := by
  match bs, h with
  | op :: arg :: rest, h => exact ⟨op, arg, rest, rfl, (Decoded.ok.inj h).symm⟩

theorem decode_busCmd_ok (h : decode .busCmd bs = .ok i) :
    (∃ rest, bs = 0x01 :: Config.opcSelect :: rest ∧ i = .selectTag) ∨
      ∃ page rest, bs = 0x02 :: Config.opcRead :: page :: rest ∧ i = .readPage page := by
  simp only [decode] at h
  unfold decodeBusCmd at h
  repeat' split at h
  all_goals cases h
  · subst_vars; exact .inl ⟨_, rfl, rfl⟩
  · subst_vars; exact .inr ⟨_, _, rfl, rfl⟩

theorem decode_busResp_ok (h : decode .busResp bs = .ok i) : ∃ f rest, bs = Frame.toList f ++ rest ∧ i = .resp f := by
  match bs, h with
  | b0 :: b1 :: b2 :: b3 :: b4 :: b5 :: b6 :: b7 :: b8 :: b9 :: b10 :: rest, h =>
    exact ⟨⟨b0, b1, b2, b3, b4, b5, b6, b7, b8, b9, b10⟩, rest, rfl, (Decoded.ok.inj h).symm⟩

theorem decode_tlv_ok (h : decode .tlv bs = .ok i) : ∃ t rest, bs = t :: rest ∧ i = decodeTlvType t := by
  match bs, h with
  | t :: rest, h => exact ⟨t, rest, rfl, (Decoded.ok.inj h).symm⟩

theorem decode_tlvLen_ok (h : decode .tlvLen bs = .ok i) :
    (∃ b rest, b ≠ Config.lenExt ∧ bs = b :: rest ∧ i = .lenShort b) ∨
      ∃ hi lo rest, bs = Config.lenExt :: hi :: lo :: rest ∧ i = .lenExt (be16 hi lo) := by
  simp only [decode] at h
  unfold decodeTlvLen at h
  repeat' split at h
  all_goals cases h
  · subst_vars; exact .inr ⟨_, _, _, rfl, rfl⟩
  · exact .inl ⟨_, _, ‹_›, rfl, rfl⟩

/-- The four layouts (R107). -/
theorem decode_ndefRec_ok (h : decode .ndefRec bs = .ok i) :
    ∃ hdr tl p0 rest,
      (hdrSR hdr = true ∧ hdrIL hdr = false ∧ bs = hdr :: tl :: p0 :: rest ∧ i = .recSr (recFlagsOf hdr) tl p0) ∨
      (∃ il, hdrSR hdr = true ∧ hdrIL hdr = true ∧ bs = hdr :: tl :: p0 :: il :: rest ∧
        i = .recSrIl (recFlagsOf hdr) tl p0 il) ∨
      (∃ p1 p2 p3, hdrSR hdr = false ∧ hdrIL hdr = false ∧ bs = hdr :: tl :: p0 :: p1 :: p2 :: p3 :: rest ∧
        i = .recLong (recFlagsOf hdr) tl (be32 p0 p1 p2 p3)) ∨
      ∃ p1 p2 p3 il, hdrSR hdr = false ∧ hdrIL hdr = true ∧
        bs = hdr :: tl :: p0 :: p1 :: p2 :: p3 :: il :: rest ∧
        i = .recLongIl (recFlagsOf hdr) tl (be32 p0 p1 p2 p3) il := by
  match bs, h with
  | hdr :: tl :: rest, h =>
    simp only [decode, decodeNdefRec] at h
    unfold decodeRecTail at h
    repeat' split at h
    all_goals cases h
    · exact ⟨hdr, tl, _, _, .inl ⟨‹_›, ‹_›, rfl, rfl⟩⟩
    · exact ⟨hdr, tl, _, _, .inr (.inl ⟨_, ‹_›, ‹_›, rfl, rfl⟩)⟩
    · exact ⟨hdr, tl, _, _, .inr (.inr (.inl ⟨_, _, _, ‹_›, ‹_›, rfl, rfl⟩))⟩
    · exact ⟨hdr, tl, _, _, .inr (.inr (.inr ⟨_, _, _, _, ‹_›, ‹_›, rfl, rfl⟩))⟩

theorem decode_recClass_ok (h : decode .recClass bs = .ok i) : i = .recText ∨ i = .recOther := by
  simp only [decode] at h
  unfold decodeRecClass at h
  repeat' split at h
  all_goals cases h
  all_goals simp

end

/-! ## The obligations -/

/-- Settles O1, format by format: the encoding is a list of the form its decoder matches, and the fields put together
again are the operands. -/
theorem decodeEncodeAgree : Obligations.DecodeEncodeAgree := by
  unfold Obligations.DecodeEncodeAgree
  intro i f rest wf fmt
  cases i with
  | sel | selr | rdp | rdpr | rdt | rdtr | dec | tbclr | tbapp =>
    cases fmt
    simp [decode, encode, requestBytes, decodeHostReq]
  | undefinedOp op =>
    cases fmt
    have undefined : op ∉ definedOps := by simpa [Instr.wellFormed] using wf
    exact congrArg Decoded.ok (decodeHostReq_undefined 0 undefined)
  | selectTag | readPage | resp | tlvNull | tlvNdef | tlvTerminator | recText | recOther =>
    cases fmt
    rfl
  | tlvOpaque t =>
    cases fmt
    simp only [Instr.wellFormed, Bool.and_eq_true, bne_iff_ne] at wf
    obtain ⟨⟨null, ndef⟩, term⟩ := wf
    exact congrArg Decoded.ok (decodeTlvType_opaque null ndef term)
  | lenShort l =>
    cases fmt
    exact decode_tlvLen_short rest (by simpa [Instr.wellFormed, Config.lenExt] using wf)
  | lenExt l =>
    cases fmt
    exact (decode_tlvLen_ext _ _ rest).trans (by rw [be16_split])
  | recSr f tl p =>
    cases fmt
    exact (decode_ndefRec_short tl p rest (hdrSR_headerByte f true false) (hdrIL_headerByte f true false)).trans
      (by rw [recFlagsOf_headerByte])
  | recSrIl f tl p il =>
    cases fmt
    exact (decode_ndefRec_shortId tl p il rest (hdrSR_headerByte f true true) (hdrIL_headerByte f true true)).trans
      (by rw [recFlagsOf_headerByte])
  | recLong f tl p =>
    cases fmt
    exact (decode_ndefRec_long tl _ _ _ _ rest (hdrSR_headerByte f false false)
      (hdrIL_headerByte f false false)).trans (by rw [recFlagsOf_headerByte, be32_split])
  | recLongIl f tl p il =>
    cases fmt
    exact (decode_ndefRec_longId tl _ _ _ _ il rest (hdrSR_headerByte f false true)
      (hdrIL_headerByte f false true)).trans (by rw [recFlagsOf_headerByte, be32_split])
  | tbload | readid | dump | readtext => cases fmt

/-- Settles O2, by what each format decodes to. -/
theorem decodedElementsAreWellFormed : Obligations.DecodedElementsAreWellFormed := by
  unfold Obligations.DecodedElementsAreWellFormed
  intro f bs i h
  cases f with
  | hostReq =>
    obtain ⟨op, arg, rest, -, rfl⟩ := decode_hostReq_ok h
    exact ⟨decodeHostReq_wellFormed op arg, decodeHostReq_format op arg⟩
  | busCmd => obtain ⟨_, -, rfl⟩ | ⟨_, _, -, rfl⟩ := decode_busCmd_ok h <;> exact ⟨rfl, rfl⟩
  | busResp => obtain ⟨_, _, -, rfl⟩ := decode_busResp_ok h; exact ⟨rfl, rfl⟩
  | tlv =>
    obtain ⟨t, rest, -, rfl⟩ := decode_tlv_ok h
    obtain ⟨-, e⟩ | ⟨-, e⟩ | ⟨-, e⟩ | ⟨null, ndef, term, e⟩ := decodeTlvType_cases t
    · rw [e]; exact ⟨rfl, rfl⟩
    · rw [e]; exact ⟨rfl, rfl⟩
    · rw [e]; exact ⟨rfl, rfl⟩
    · rw [e]; exact ⟨by simp [Instr.wellFormed, null, ndef, term], rfl⟩
  | tlvLen =>
    obtain ⟨b, rest, below, -, rfl⟩ | ⟨hi, lo, rest, -, rfl⟩ := decode_tlvLen_ok h
    · exact ⟨by simpa [Instr.wellFormed] using below, rfl⟩
    · exact ⟨rfl, rfl⟩
  | ndefRec =>
    obtain ⟨_, _, _, _, ⟨-, -, -, rfl⟩ | ⟨_, -, -, -, rfl⟩ | ⟨_, _, _, -, -, -, rfl⟩ | ⟨_, _, _, _, -, -, -, rfl⟩⟩ :=
      decode_ndefRec_ok h <;> exact ⟨rfl, rfl⟩
  | recClass => obtain rfl | rfl := decode_recClass_ok h <;> exact ⟨rfl, rfl⟩

/-- Settles O3, by what the bytes of a decoded element look like: its encoding and what follows. -/
theorem decodedBytesReencode : Obligations.DecodedBytesReencode := by
  unfold Obligations.DecodedBytesReencode
  rintro f bs i (rfl | rfl | rfl | rfl | rfl) h
  · obtain ⟨rest, rfl, rfl⟩ | ⟨page, rest, rfl, rfl⟩ := decode_busCmd_ok h <;> exact ⟨rest, rfl⟩
  · obtain ⟨frame, rest, rfl, rfl⟩ := decode_busResp_ok h
    exact ⟨rest, rfl⟩
  · obtain ⟨t, rest, rfl, rfl⟩ := decode_tlv_ok h
    obtain ⟨rfl, e⟩ | ⟨rfl, e⟩ | ⟨rfl, e⟩ | ⟨-, -, -, e⟩ := decodeTlvType_cases t <;> rw [e] <;> exact ⟨rest, rfl⟩
  · obtain ⟨b, rest, -, rfl, rfl⟩ | ⟨hi, lo, rest, rfl, rfl⟩ := decode_tlvLen_ok h
    · exact ⟨rest, rfl⟩
    · exact ⟨rest, by rw [encode, be16Bytes_be16]; rfl⟩
  · obtain ⟨hdr, tl, p0, rest, ⟨sr, il, rfl, rfl⟩ | ⟨_, sr, il, rfl, rfl⟩ | ⟨_, _, _, sr, il, rfl, rfl⟩ |
      ⟨_, _, _, _, sr, il, rfl, rfl⟩⟩ := decode_ndefRec_ok h <;>
      exact ⟨rest, by simp [encode, headerByte_recFlagsOf sr il, be32Bytes_be32]⟩

/-- Settles O4: seven words evaluated. -/
theorem writtenWordsDecode : Obligations.WrittenWordsDecode := by
  unfold Obligations.WrittenWordsDecode
  decide

/-- Settles O5: the nine codes are told apart by their value, and any other by `decodeHostReq_undefined`. -/
theorem operationMap : Obligations.OperationMap := by
  unfold Obligations.OperationMap
  intro op arg
  exact ⟨rfl, rfl, rfl, rfl, rfl, rfl, rfl, rfl, rfl, decodeHostReq_undefined arg⟩

end Sys2Proof

namespace Sys2Proof.Machine

/-- The requests of `TBLOAD`: `TBCLR`, then one `TBAPP` for each byte (R113). -/
theorem expansion_tbload_requests (bs : List Byte) :
    (expansion (.tbload bs)).map HostEvent.request =
      .request 0x4000 :: bs.map (fun b => HostEvent.request ((0x41 : BitVec 8) ++ b)) := by
  simp only [expansion, List.map_cons, List.map_map]
  rfl

theorem exec_tbload (bs : List Byte) (s : State) : exec (.tbload bs) s = .next { s with
    env.script :=
      .request 0x4000 :: bs.map (fun b => HostEvent.request ((0x41 : BitVec 8) ++ b)) ++ s.env.script } := by
  rw [← expansion_tbload_requests]
  rfl

/-- Settles O16: each pseudo-operation is its expansion put before the host's coming accesses. -/
theorem pseudoOperationsExpand : Obligations.PseudoOperationsExpand := by
  unfold Obligations.PseudoOperationsExpand
  intro bs s
  exact ⟨exec_tbload bs s, rfl, rfl, rfl⟩

end Sys2Proof.Machine
end

section
/-! What a step begins with (R39, R112, R250): one equation per host access, the running engine behind them; obligation
O8. -/

namespace Sys2Proof.Machine

/-! ## What was fetched, run -/

/-- The outcome of what a step begins with: the move itself, or its element decoded and run. -/
def Fetched.run : Fetched → Outcome
  | .move o => o
  | .element f bs t =>
    match decode f bs with
    | .ok i => exec i t
    | .refused _ => refusedElement f t

@[simp] theorem Fetched.run_move (o : Outcome) : (Fetched.move o).run = o := rfl

theorem Fetched.run_element {f : Format} {bs : List Byte} {i : Instr} (t : State) (decoded : decode f bs = .ok i) :
    (Fetched.element f bs t).run = exec i t := by
  simp [Fetched.run, decoded]

theorem Fetched.run_refused {f : Format} {bs : List Byte} {e : DecodeError} (t : State)
    (refused : decode f bs = .refused e) : (Fetched.element f bs t).run = refusedElement f t := by
  simp [Fetched.run, refused]

/-- A step is what it fetched, run. -/
theorem step_eq_run (s : State) : step s = s.fetch.run := by
  unfold step Fetched.run
  cases s.fetch with
  | move o => rfl
  | element f bs t => cases decode f bs <;> rfl

theorem step_released {s : State} (released : s.env.rst = false) : step s = s.fetchRunning.run := by
  rw [step_eq_run, State.fetch, released]
  rfl

theorem step_held {s : State} (held : s.env.rst = true) : step s = s.fetchInReset.run := by
  rw [step_eq_run, State.fetch, held]
  rfl

/-! ## Out of reset, by the host's next access (R41, R112, R250) -/

section
variable {s : State} (released : s.env.rst = false) {rest : List HostEvent}
include released

theorem step_of_nil (script : s.env.script = []) : step s = s.fetchEngine.run := by
  rw [step_released released, State.fetchRunning, script]

theorem step_of_pause (script : s.env.script = .pause :: rest) :
    step s = (State.fetchEngine { s with env.script := rest }).run := by
  rw [step_released released, State.fetchRunning, script]

theorem step_of_read {a : Byte} (script : s.env.script = .read a :: rest) :
    step s = State.hostRead { s with env.script := rest } a := by
  rw [step_released released, State.fetchRunning, script]
  rfl

theorem step_of_write {a v : Byte} (script : s.env.script = .write a v :: rest) (notOp : a ≠ 0x00) :
    step s = .next (State.hostWrite { s with env.script := rest } a v) := by
  rw [step_released released, State.fetchRunning, script]
  simp only [notOp, if_false, Fetched.run_move]

theorem step_of_writeOp {v : Byte} (script : s.env.script = .write 0x00 v :: rest) :
    step s = exec (decodeHostReq v s.hif.arg) { s with env.script := rest } := by
  rw [step_released released, State.fetchRunning, script]
  rfl

theorem step_of_request_busy {w : BitVec 16} (script : s.env.script = .request w :: rest)
    (busy : s.hif.busy = true) : step s = s.fetchEngine.run := by
  rw [step_released released, State.fetchRunning, script]
  simp only [busy, if_true]

theorem step_of_request_idle {w : BitVec 16} (script : s.env.script = .request w :: rest)
    (free : s.hif.busy = false) : step s = (State.issueRequest { s with env.script := rest } w).run := by
  rw [step_released released, State.fetchRunning, script]
  simp only [free, Bool.false_eq_true, if_false]

end

/-- `rst` driven to a level acts whether the block is in reset or not. -/
theorem step_of_rst {s : State} {b : Bool} {rest : List HostEvent} (script : s.env.script = .rst b :: rest) :
    step s = .next (State.driveRst { s with env.script := rest } b) := by
  cases held : s.env.rst with
  | true => rw [step_held held, State.fetchInReset, script]; rfl
  | false => rw [step_released held, State.fetchRunning, script]; rfl

/-! ## The obligation -/

/-- Settles O8. -/
theorem stepRunsDecodedElement : Obligations.StepRunsDecodedElement := by
  unfold Obligations.StepRunsDecodedElement
  intro s t f bs i fetched decoded
  rw [step_eq_run, fetched, Fetched.run_element t decoded]

end Sys2Proof.Machine
end

section
/-! The host port (R26, R33, R41, R42) and reset (R250 to R252): register bytes as numbers, the register map against the
accessor; obligations O54, O56, O57, O58 and O60. -/

namespace Sys2Proof.Machine

/-! ## Bytes of registers as numbers (R41, R68) -/

@[simp] theorem lowByte_toNat (v : Half) : (lowByte v).toNat = v.toNat % 256 := by
  simp [lowByte, BitVec.extractLsb'_toNat]

@[simp] theorem highByte_toNat (v : Half) : (highByte v).toNat = v.toNat / 256 := by
  have fits := v.isLt
  simp only [highByte, BitVec.extractLsb'_toNat, Nat.shiftRight_eq_div_pow]
  omega

/-- A register no wider than a byte has a byte's number. -/
theorem toNat_lt_of_narrow {w : Nat} (x : BitVec w) (narrow : w ≤ 8) : x.toNat < 256 :=
  lt_of_lt_of_le x.isLt (Nat.pow_le_pow_right (by decide) narrow)

/-- A flag put behind a word is its lowest bit. -/
theorem toNat_append_ofBool {w : Nat} (x : BitVec w) (b : Bool) :
    (x ++ BitVec.ofBool b).toNat = 2 * x.toNat + b.toNat := by
  rw [BitVec.toNat_append, ← Nat.shiftLeft_add_eq_or_of_lt (BitVec.ofBool b).isLt, Nat.shiftLeft_eq,
    BitVec.toNat_ofBool]
  omega

/-- A masked byte is at most its mask. -/
theorem toNat_and_le_mask (x m : Byte) : (x &&& m).toNat ≤ m.toNat := by
  rw [BitVec.toNat_and]
  exact Nat.and_le_right

/-! ## `STATUS` (R26) -/

/-- Settles O58: the flags are appended one by one, each below the one before it. -/
theorem statusShowsTheFlags : Obligations.StatusShowsTheFlags := by
  unfold Obligations.StatusShowsTheFlags
  intro h
  have weight (b : Bool) (k : Nat) : (if b then k else 0) = k * b.toNat := by cases b <;> simp
  have zero : (0 : BitVec 4).toNat = 0 := rfl
  simp only [HostRegs.status, toNat_append_ofBool, weight, zero]
  omega

/-! ## Reads of the register map (R41) -/

/-- The accessor reads what the map shows. -/
theorem State.regValue_of_mem_registerMap (s : State) (a : Byte) (n : Nat) (mapped : (a.toNat, n) ∈ s.registerMap) :
    (s.regValue a).toNat = n := by
  simp only [State.registerMap, List.mem_append, List.mem_cons, Prod.mk.injEq, List.not_mem_nil, or_false,
    or_assoc] at mapped
  repeat' obtain ⟨atAddress, shown⟩ | mapped := mapped
  all_goals simp [State.regValue, *, sevenByte, frameByte]
  -- `RES`, `CAUSE`, `ATTEMPTS`, `IDLEN` and `PLEN` are narrower than a byte.
  all_goals exact toNat_lt_of_narrow _ (by decide)

/-- No address of the map is that of `TBD`. -/
theorem State.ne_tbd_of_mem_registerMap (s : State) (a : Byte) (n : Nat) (mapped : (a.toNat, n) ∈ s.registerMap) :
    a ≠ 0x32 := by
  rintro rfl
  simp [State.registerMap] at mapped

theorem State.regValue_of_unlisted (s : State) (a : Byte) (high : 0x2B ≤ a.toNat) (low : a.toNat ≠ 0x30)
    (notHigh : a.toNat ≠ 0x31) : s.regValue a = 0 := by
  unfold State.regValue
  extract_lets n
  have outside : 0x2B ≤ n := high
  repeat rw [if_neg (by omega)]

theorem regMask_toNat (a : Byte) : (regMask a).toNat = 2 ^ registerWidth a.toNat - 1 := by
  unfold regMask registerWidth
  extract_lets n
  split_ifs <;> rfl

/-! ## A host read, by what it reads (R33, R42) -/

theorem State.hostRead_shown (s : State) (a : Byte) (notTbd : a ≠ 0x32)
    (meaningful : ¬(s.hif.busy = true ∧ opWritten a = true)) :
    s.hostRead a = .next (s.logRead a (s.regValue a)) := by
  rw [State.hostRead, if_neg notTbd, if_neg meaningful]

theorem State.hostRead_free (s : State) (a : Byte) (notTbd : a ≠ 0x32) (busy : s.hif.busy = true)
    (written : opWritten a = true) : s.hostRead a = .next (s.logFree a (regMask a)) := by
  rw [State.hostRead, if_neg notTbd, if_pos ⟨busy, written⟩]

theorem State.readTbd_valued (s : State) (v : Byte) (free : s.hif.busy = false)
    (below : s.hif.tba.toNat < s.tb.len.toNat) (valued : Memory.read s.tb.cells s.hif.tba.toNat = some v) :
    s.readTbd = .next (State.logRead { s with hif.tba := s.hif.tba + 1 } 0x32 v) := by
  rw [State.readTbd, if_neg (by simp [free, below]), valued]

theorem State.readTbd_free (s : State) (any : s.hif.busy = true ∨ s.tb.len.toNat ≤ s.hif.tba.toNat) :
    s.readTbd = .next (State.logFree { s with hif.tba := s.hif.tba + 1 } 0x32 0xFF) := by
  rw [State.readTbd, if_pos any]

/-! ## The obligations -/

/-- Settles O57: an access out of reset is the step, and each address falls in one range of the map. -/
theorem hostAccesses : Obligations.HostAccesses := by
  unfold Obligations.HostAccesses
  intro s a rest released
  refine ⟨fun n mapped shown script => ?shown, fun script busy low high => ?free,
    fun script high notLow notHigh notTbd => ?unlisted, fun v script => ?arg, fun v script ignored => ?ignored⟩
  case shown =>
    refine ⟨s.regValue a, s.regValue_of_mem_registerMap a n mapped, ?_⟩
    rw [step_of_read released script,
      State.hostRead_shown _ a (s.ne_tbd_of_mem_registerMap a n mapped) (by simp [opWritten]; grind)]
    rfl
  case free =>
    have written : opWritten a = true := by simp [opWritten, low, high]
    have notTbd : a ≠ 0x32 := by rintro rfl; simp at high
    refine ⟨Config.freeByte s.env.draws &&& regMask a, ?_, ?_⟩
    · have masked := toNat_and_le_mask (Config.freeByte s.env.draws) (regMask a)
      have positive : 0 < 2 ^ registerWidth a.toNat := Nat.two_pow_pos _
      rw [regMask_toNat] at masked
      omega
    · exact (step_of_read released script).trans (State.hostRead_free _ a notTbd busy written)
  case unlisted =>
    have notWritten : opWritten a = false := by simp [opWritten]; omega
    rw [step_of_read released script,
      State.hostRead_shown _ a (fun isTbd => notTbd (by rw [isTbd]; rfl)) (by simp [notWritten]),
      State.regValue_of_unlisted _ a high notLow notHigh]
    rfl
  case arg => exact step_of_write released script (by decide)
  case ignored =>
    simp only [List.mem_cons, List.not_mem_nil, or_false, not_or] at ignored
    obtain ⟨notOp, notArg, notLow, notHigh⟩ := ignored
    rw [step_of_write released script notOp, State.hostWrite, if_neg notArg, if_neg notLow, if_neg notHigh]

/-- Settles O56: `TBA`'s two bytes as numbers, and the two ways of a read of `TBD`. -/
theorem tagBufferWindow : Obligations.TagBufferWindow := by
  unfold Obligations.TagBufferWindow
  intro s rest released
  refine ⟨fun v script free below valued => ?valued, fun script any => ?free, fun v script => ?writeLow,
    fun v script => ?writeHigh, fun script => ?readLow, fun script => ?readHigh, fun v script => ?writeTbd⟩
  case valued =>
    exact (step_of_read released script).trans (State.readTbd_valued _ v free below valued)
  case free =>
    refine ⟨Config.freeByte s.env.draws &&& 0xFF, ?_⟩
    exact (step_of_read released script).trans (State.readTbd_free _ any)
  case writeLow =>
    refine ⟨_, step_of_write released script (by decide), rfl, ?_⟩
    exact (toNat_append_byte (highByte s.hif.tba) v).trans (by rw [highByte_toNat])
  case writeHigh =>
    refine ⟨_, step_of_write released script (by decide), rfl, ?_⟩
    exact (toNat_append_byte v (lowByte s.hif.tba)).trans (by rw [lowByte_toNat])
  case readLow =>
    refine ⟨lowByte s.hif.tba, lowByte_toNat _, ?_⟩
    rw [step_of_read released script, State.hostRead_shown _ 0x30 (by decide) (by simp [opWritten])]
    rfl
  case readHigh =>
    refine ⟨highByte s.hif.tba, highByte_toNat _, ?_⟩
    rw [step_of_read released script, State.hostRead_shown _ 0x31 (by decide) (by simp [opWritten])]
    rfl
  case writeTbd => exact step_of_write released script (by decide)

/-- Settles O60: asserting `rst` is one move, in reset or out of it. -/
theorem resetAbandonsTheOperation : Obligations.ResetAbandonsTheOperation := by
  unfold Obligations.ResetAbandonsTheOperation
  intro s rest script
  rw [step_of_rst script]
  rfl

/-- Settles O54: the invariants speak of registers, an empty TagBuffer and an empty history. -/
theorem invariantsHoldAtReset : Obligations.InvariantsHoldAtReset := by
  unfold Obligations.InvariantsHoldAtReset
  refine ⟨?tagBuffer, State.reset_memory_wf, ?engine, ?attempt, ?cursor, ?decode, ?held, ?bus⟩
  case tagBuffer => simp [State.tagBufferInv]
  case engine => simp [State.engineInv]
  case attempt => simp [State.attemptInv]
  case cursor => simp [State.cursorInv]
  case decode => simp [State.decodeInv]
  case held => exact fun _ => rfl
  case bus => simp [State.busInv]

end Sys2Proof.Machine
end

section
/-! The running engine (R39): one equation per state of the two machines, and its independence of what the host does
next and of what lies at or beyond `CE`; obligations O9 and O45. -/

namespace Sys2Proof.Machine

/-! ## The transactor's states (R131) -/

section
variable {s : State}

theorem State.fetchEngine_free (free : s.hif.busy = false) : s.fetchEngine = .move (.next s) := by
  rw [State.fetchEngine, if_neg (by simp [free])]

theorem State.fetchEngine_tpdIdle (busy : s.hif.busy = true) (tst : s.tpd.tst = .idle) :
    s.fetchEngine = s.fetchDecoder := by
  rw [State.fetchEngine, if_pos busy, tst]

/-- The command an attempt sends (R93, R94). -/
def State.command (s : State) : Instr := if s.selecting then .selectTag else .readPage s.tpd.reqPage

theorem State.decode_commandBytes (s : State) : decode .busCmd s.commandBytes = .ok s.command := by
  unfold State.commandBytes State.command
  split <;> rfl

theorem State.run_build (busy : s.hif.busy = true) (tst : s.tpd.tst = .build) :
    s.fetchEngine.run = exec s.command s := by
  rw [State.fetchEngine, if_pos busy, tst]
  exact Fetched.run_element s s.decode_commandBytes

theorem State.run_write (busy : s.hif.busy = true) (tst : s.tpd.tst = .write) :
    s.fetchEngine.run = .next (s.unlessStuck State.moveWrite) := by
  rw [State.fetchEngine, if_pos busy, tst, Fetched.run_move]

theorem State.run_settle (busy : s.hif.busy = true) (tst : s.tpd.tst = .settle) :
    s.fetchEngine.run = .next (s.unlessStuck State.moveSettle) := by
  rw [State.fetchEngine, if_pos busy, tst, Fetched.run_move]

theorem State.run_read (busy : s.hif.busy = true) (tst : s.tpd.tst = .read) :
    s.fetchEngine.run = .next (s.unlessStuck State.moveRead) := by
  rw [State.fetchEngine, if_pos busy, tst, Fetched.run_move]

theorem State.run_check (busy : s.hif.busy = true) (tst : s.tpd.tst = .check) :
    s.fetchEngine.run = exec (.resp s.tpd.xbuf) s := by
  rw [State.fetchEngine, if_pos busy, tst]
  exact Fetched.run_element s rfl

theorem State.run_gap (busy : s.hif.busy = true) (tst : s.tpd.tst = .gap) :
    s.fetchEngine.run = .next (s.unlessStuck State.moveGap) := by
  rw [State.fetchEngine, if_pos busy, tst, Fetched.run_move]

/-! ## The decoder unit's states (R176 to R179, R195) -/

theorem State.fetchWindow_some {f : Format} {n : Nat} {bs : List Byte} (window : s.window n = some bs) :
    s.fetchWindow f n = .element f bs s := by
  rw [State.fetchWindow, window]

theorem State.fetchClass_some {bs : List Byte} (window : s.window 1 = some bs) :
    s.fetchClass = .element .recClass (s.ndd.hdr :: s.ndd.typelen :: bs) s := by
  rw [State.fetchClass, window]

theorem State.fetchDecoder_idle (dst : s.ndd.dst = .idle) : s.fetchDecoder = .move (.next s) := by
  rw [State.fetchDecoder, dst]

theorem State.fetchDecoder_readType (dst : s.ndd.dst = .readType) (below : s.ndd.idx.toNat < s.ndd.ce.toNat) :
    s.fetchDecoder = s.fetchWindow .tlv 1 := by
  rw [State.fetchDecoder, dst]
  exact if_neg (by omega)

theorem State.fetchDecoder_endOfBuffer (dst : s.ndd.dst = .readType) (atEnd : s.ndd.ce.toNat ≤ s.ndd.idx.toNat) :
    s.fetchDecoder = .move (.next (s.raiseDecode .endOfBuffer)) := by
  rw [State.fetchDecoder, dst]
  exact if_pos atEnd

theorem State.fetchDecoder_readLength (dst : s.ndd.dst = .readLength) : s.fetchDecoder = s.fetchWindow .tlvLen 3 := by
  rw [State.fetchDecoder, dst]

theorem State.run_dispatch (dst : s.ndd.dst = .dispatch) :
    s.fetchDecoder.run = exec (decodeTlvType s.ndd.tlvT) s := by
  rw [State.fetchDecoder, dst]
  exact Fetched.run_element s rfl

theorem State.fetchDecoder_body (dst : s.ndd.dst = .record) (inBody : s.ndd.inBody = true) :
    s.fetchDecoder = s.fetchClass := by
  rw [State.fetchDecoder, dst]
  exact if_pos inBody

/-- A record may begin at the cursor (R195). -/
theorem State.fetchDecoder_header (dst : s.ndd.dst = .record) (outside : s.ndd.inBody = false)
    (inMessage : s.ndd.idx.toNat < s.ndd.msgend.toNat) (below : s.ndd.idx.toNat < s.ndd.ce.toNat) :
    s.fetchDecoder = s.fetchWindow .ndefRec 7 := by
  rw [State.fetchDecoder, dst]
  simp only [outside, Bool.false_eq_true, if_false, inMessage, below, and_self, if_true]

theorem State.fetchDecoder_messageEnd (dst : s.ndd.dst = .record) (outside : s.ndd.inBody = false)
    (ended : s.ndd.msgend.toNat ≤ s.ndd.idx.toNat ∨ s.ndd.ce.toNat ≤ s.ndd.idx.toNat) :
    s.fetchDecoder = .move (.next { s with ndd.dst := .readType }) := by
  have noRecord : ¬(s.ndd.idx.toNat < s.ndd.msgend.toNat ∧ s.ndd.idx.toNat < s.ndd.ce.toNat) := by omega
  rw [State.fetchDecoder, dst]
  simp only [outside, Bool.false_eq_true, if_false, noRecord]

theorem State.fetchDecoder_done (dst : s.ndd.dst = .done) : s.fetchDecoder = .move (.next s.complete) := by
  rw [State.fetchDecoder, dst]

/-- The one byte under a cursor below `CE`. -/
theorem State.window_one {b : Byte} (below : s.ndd.idx.toNat < s.ndd.ce.toNat)
    (valued : Memory.read s.tb.cells s.ndd.idx.toNat = some b) : s.window 1 = some [b] := by
  rw [State.window, Nat.min_eq_left (by omega)]
  simp [Memory.readRange, valued]

/-- A Text record past its type byte and its id field, where the language length stands (R198). -/
def State.pastId (s : State) : State :=
  State.skip { s with ndd.idx := s.ndd.idx + 1 } (s.ndd.idx.toNat + 1 + s.ndd.ridlen.toNat)

theorem execRecText_eq (s : State) : execRecText s =
    if s.ndd.paylen = 0 then .next s.pastId.rejectRecord
    else
      match s.pastId.take 1 with
      | .ok v u => .next (State.textBody { u with ndd.langlen := BitVec.ofNat 8 v })
      | .exhausted u => .next (u.raiseDecode .truncated)
      | .noValue => .fault (.noValue s.pastId.ndd.idx.toNat) := rfl

/-! ## A step while the host does nothing -/

theorem State.transacting.step_eq {d : Tst} (h : s.transacting d) : step s = s.fetchEngine.run := by
  obtain ⟨-, -, -, released, script⟩ := h
  exact step_of_nil released script

theorem State.decoding.step_eq (h : s.decoding) : step s = s.fetchDecoder.run := by
  obtain ⟨busy, tst, released, script⟩ := h
  rw [step_of_nil released script, State.fetchEngine_tpdIdle busy tst]

end

/-! ## Two runs side by side

The engine neither reads nor writes the host's coming accesses, and the decoder reads the TagBuffer below `CE` alone. So
the engine moves alike in two states that differ in these. -/

/-- The state with its TagBuffer cells and the host's coming accesses replaced. -/
def State.reframe (c : List Host.Cell → List Host.Cell) (r : List HostEvent → List HostEvent) (s : State) : State :=
  { s with tb.cells := c s.tb.cells, env.script := r s.env.script }

/-- An outcome with its next state mapped. -/
def mapNext (g : State → State) : Outcome → Outcome
  | .next t => .next (g t)
  | .fault r => .fault r
  | .refused r => .refused r

@[simp] theorem mapNext_next (g : State → State) (t : State) : mapNext g (.next t) = .next (g t) := rfl
theorem mapNext_ite {g : State → State} (p : Prop) [Decidable p] {yes no yes' no' : State} (onYes : yes' = g yes)
    (onNo : no' = g no) :
    (if p then (.next yes' : Outcome) else .next no') = mapNext g (if p then .next yes else .next no) := by
  rw [onYes, onNo, apply_ite (mapNext g), mapNext_next, mapNext_next]

/-! ### The decoder unit -/

section
variable (c : List Host.Cell → List Host.Cell) (r : List HostEvent → List HostEvent) (s : State)

/-- Both contents agree on every index below `CE`. -/
def State.agreesBelowCe (s : State) (c : List Host.Cell → List Host.Cell) : Prop :=
  ∀ a, a < s.ndd.ce.toNat → Memory.read (c s.tb.cells) a = Memory.read s.tb.cells a

theorem Memory.readRange_congr {cells cells' : List Host.Cell} (n a : Nat)
    (same : ∀ x, a ≤ x → x < a + n → Memory.read cells x = Memory.read cells' x) :
    Memory.readRange cells a n = Memory.readRange cells' a n := by
  induction n generalizing a with
  | zero => rfl
  | succ n ih =>
    rw [Memory.readRange, Memory.readRange, same a (by omega) (by omega),
      ih (a + 1) (fun x low high => same x (by omega) (by omega))]

@[simp] theorem State.reframe_hif : (s.reframe c r).hif = s.hif := rfl
@[simp] theorem State.reframe_tpd : (s.reframe c r).tpd = s.tpd := rfl
@[simp] theorem State.reframe_ndd : (s.reframe c r).ndd = s.ndd := rfl

variable {c r} in
theorem State.ite_reframe (p : Prop) [Decidable p] {yes no yes' no' : State} (onYes : yes' = yes.reframe c r)
    (onNo : no' = no.reframe c r) : (if p then yes' else no') = (if p then yes else no).reframe c r := by
  rw [onYes, onNo, apply_ite (State.reframe c r)]

theorem State.lengthCut_reframe : (s.reframe c r).lengthCut = s.lengthCut.reframe c r :=
  State.ite_reframe (s.ndd.tlvT = Config.tlvTerm) rfl rfl

theorem State.textBody_reframe : (s.reframe c r).textBody = s.textBody.reframe c r :=
  State.ite_reframe (langOverrun s.ndd.langlen s.ndd.paylen = true) rfl
    (State.ite_reframe (s.ndd.ce.toNat < s.ndd.idx.toNat + s.ndd.langlen.toNat +
      (s.ndd.paylen.toNat - 1 - s.ndd.langlen.toNat)) rfl rfl)

/-- The outcome of a checked cursor read, its states mapped. -/
def Taken.map (g : State → State) : Taken → Taken
  | .ok v t => .ok v (g t)
  | .exhausted t => .exhausted (g t)
  | .noValue => .noValue

variable {c} (agrees : s.agreesBelowCe c)
include agrees

theorem State.window_reframe (n : Nat) : (s.reframe c r).window n = s.window n :=
  Memory.readRange_congr _ _ fun a low high => agrees a (by
    change s.ndd.idx.toNat ≤ a at low
    change a < s.ndd.idx.toNat + min n (s.ndd.ce.toNat - s.ndd.idx.toNat) at high
    omega)

theorem State.take_reframe (n : Nat) : (s.reframe c r).take n = (s.take n).map (State.reframe c r) := by
  obtain ⟨cut, taken⟩ | ⟨fits, -⟩ := s.take_cases n
  · rw [taken]
    exact if_pos cut
  · have sameField : memRead (s.reframe c r) s.ndd.idx.toNat n = memRead s s.ndd.idx.toNat n :=
      congrArg (Option.map beNat) (Memory.readRange_congr n _ fun a low high => agrees a (by omega))
    have fitsThere : ¬(s.reframe c r).ndd.ce.toNat < (s.reframe c r).ndd.idx.toNat + n := Nat.not_lt.mpr fits
    rw [State.take, State.take, if_neg fitsThere, if_neg (Nat.not_lt.mpr fits), State.reframe_ndd, sameField]
    cases memRead s s.ndd.idx.toNat n <;> rfl

theorem State.execRecText_reframe : execRecText (s.reframe c r) = mapNext (State.reframe c r) (execRecText s) := by
  have skipped : (s.reframe c r).pastId = s.pastId.reframe c r := rfl
  rw [execRecText_eq, execRecText_eq, skipped, State.take_reframe r s.pastId agrees 1, State.reframe_ndd]
  split
  case isTrue => rfl
  case isFalse =>
    cases s.pastId.take 1 with
    | ok v u => exact congrArg Host.Outcome.next (State.textBody_reframe c r { u with ndd.langlen := BitVec.ofNat 8 v })
    | exhausted u => rfl
    | noValue => rfl

/-- The decoder's elements run alike on both contents. -/
theorem exec_reframe {f : Format} {i : Instr} (decoderFormat : f ∈ [.tlv, .tlvLen, .ndefRec, .recClass])
    (format : i.format = some f) : exec i (s.reframe c r) = mapNext (State.reframe c r) (exec i s) := by
  cases i with
  | tlvNdef | tlvTerminator | tlvOpaque =>
    -- Acted on at dispatch, or its type byte read (R176).
    exact mapNext_ite (s.ndd.dst = .dispatch) rfl rfl
  | recText => exact State.execRecText_reframe r s agrees
  | tlvNull | lenShort | lenExt | recSr | recSrIl | recLong | recLongIl | recOther => rfl
  | _ => cases format <;> simp at decoderFormat

theorem run_reframe {f : Format} (bs : List Byte) (decoderFormat : f ∈ [.tlv, .tlvLen, .ndefRec, .recClass]) :
    (Fetched.element f bs (s.reframe c r)).run = mapNext (State.reframe c r) (Fetched.element f bs s).run := by
  cases decoded : decode f bs with
  | ok i =>
    rw [Fetched.run_element _ decoded, Fetched.run_element _ decoded]
    exact exec_reframe r s agrees decoderFormat (decodedElementsAreWellFormed f bs i decoded).2
  | refused e =>
    rw [Fetched.run_refused _ decoded, Fetched.run_refused _ decoded]
    simp only [List.mem_cons, List.not_mem_nil, or_false] at decoderFormat
    obtain rfl | rfl | rfl | rfl := decoderFormat
    · rfl
    · exact congrArg Host.Outcome.next (State.lengthCut_reframe c r s)
    · rfl
    · rfl

theorem State.fetchWindow_reframe {f : Format} (n : Nat)
    (decoderFormat : f ∈ [.tlv, .tlvLen, .ndefRec, .recClass]) :
    ((s.reframe c r).fetchWindow f n).run = mapNext (State.reframe c r) (s.fetchWindow f n).run := by
  rw [State.fetchWindow, State.fetchWindow, State.window_reframe r s agrees]
  cases s.window n with
  | some bs => exact run_reframe r s agrees bs decoderFormat
  | none => rfl

theorem State.fetchDecoder_reframe :
    (s.reframe c r).fetchDecoder.run = mapNext (State.reframe c r) s.fetchDecoder.run := by
  unfold State.fetchDecoder
  rw [State.reframe_ndd]
  cases s.ndd.dst with
  | idle | done => rfl
  | readType =>
    dsimp only
    split
    · rfl
    · exact s.fetchWindow_reframe r agrees 1 (by simp)
  | readLength => exact s.fetchWindow_reframe r agrees 3 (by simp)
  | dispatch => exact run_reframe r s agrees _ (by simp)
  | record =>
    dsimp only
    split_ifs
    · rw [State.fetchClass, State.fetchClass, State.window_reframe r s agrees]
      cases s.window 1 with
      | some bs => exact run_reframe r s agrees _ (by simp)
      | none => rfl
    · exact s.fetchWindow_reframe r agrees 7 (by simp)
    · rfl

end

/-- Settles O45: a running `DEC` steps by its decoder unit, which moves alike on contents that agree below `CE`. -/
theorem decoderReadsOnlyBelowCe : Obligations.DecoderReadsOnlyBelowCe := by
  unfold Obligations.DecoderReadsOnlyBelowCe
  intro s cells decoding agrees
  have other : State.decoding { s with tb.cells := cells } := decoding
  have alike : step { s with tb.cells := cells } = mapNext (State.reframe (fun _ => cells) id) (step s) := by
    rw [other.step_eq, decoding.step_eq]
    exact State.fetchDecoder_reframe (c := fun _ => cells) id s agrees
  exact ⟨fun t next => by rw [alike, next]; rfl, fun e fault => by rw [alike, fault]; rfl⟩

/-! ### The transactor -/

section
variable (r : List HostEvent → List HostEvent) (s : State)

/-- The state with the host's coming accesses replaced. -/
abbrev State.rescript (r : List HostEvent → List HostEvent) (s : State) : State := s.reframe id r

theorem State.unlessStuck_rescript {k k' : State → State} (alike : k' (s.rescript r) = (k s).rescript r) :
    (s.rescript r).unlessStuck k' = (s.unlessStuck k).rescript r := by
  rw [State.unlessStuck, State.unlessStuck, State.reframe_tpd, alike]
  split <;> rfl

theorem State.perform_rescript (e : BusEvent) {k : State → State}
    (alike : ∀ t : State, k (t.rescript r) = (k t).rescript r) :
    (s.rescript r).perform e k = (s.perform e k).rescript r :=
  (s.issue e).unlessStuck_rescript r (alike _)

theorem State.sendCommand_rescript (image : Frame) :
    (s.rescript r).sendCommand image = (s.sendCommand image).rescript r :=
  State.perform_rescript r { s with tpd.xbuf := image, tpd.attempts := s.tpd.attempts + 1, tpd.tst := .write } .busBegin
    (k := fun t => t.perform (.busSetAddr s.par.devAddr) fun u => u.record [.busWrite (sentBytes image)])
    fun t => t.perform_rescript r _ fun _ => rfl

theorem State.tbAppend_rescript (bs : List Byte) : (s.rescript r).tbAppend bs = (s.tbAppend bs).rescript r := by
  induction bs generalizing s with
  | nil => rfl
  | cons b bs ih => exact ih (s.tbPush b)

theorem State.beginPage_rescript (p : Byte) : (s.rescript r).beginPage p = (s.beginPage p).rescript r :=
  State.ite_reframe (s.par.cap.toNat < s.tb.len.toNat + Config.payloadMax) rfl rfl

theorem State.loopAppend_rescript : (s.rescript r).loopAppend = s.loopAppend.rescript r := by
  unfold State.loopAppend
  rw [State.reframe_tpd, State.tbAppend_rescript]
  dsimp only
  split
  · rfl
  · exact State.beginPage_rescript r _ _

theorem State.afterSuccess_rescript : (s.rescript r).afterSuccess = s.afterSuccess.rescript r := by
  have looping : (s.rescript r).looping = s.looping := rfl
  rw [State.afterSuccess, State.afterSuccess, looping, State.loopAppend_rescript]
  split <;> rfl

theorem State.afterFailure_rescript : (s.rescript r).afterFailure = s.afterFailure.rescript r := by
  have looping : (s.rescript r).looping = s.looping := rfl
  have maxTries : (s.rescript r).maxTries = s.maxTries := rfl
  rw [State.afterFailure, State.afterFailure, looping, maxTries, State.reframe_tpd, State.reframe_hif]
  split_ifs <;> rfl

theorem State.raiseAttempt_rescript (cause : Cause) :
    (s.rescript r).raiseAttempt cause = (s.raiseAttempt cause).rescript r := by
  have failed : (s.rescript r).failResults cause = (s.failResults cause).rescript r := by
    have selecting : (s.rescript r).selecting = s.selecting := rfl
    rw [State.failResults, State.failResults, selecting]
    split <;> rfl
  rw [State.raiseAttempt, failed, State.afterFailure_rescript]
  rfl

theorem execResp_rescript (f : Frame) : execResp f (s.rescript r) = mapNext (State.rescript r) (execResp f s) := by
  have accepted (n : Nat) : (s.rescript r).okResults f n = (s.okResults f n).rescript r := by
    have selecting : (s.rescript r).selecting = s.selecting := rfl
    rw [State.okResults, State.okResults, selecting]
    split <;> rfl
  have ovh : (s.rescript r).ovh = s.ovh := rfl
  rw [execResp, execResp, ovh, accepted, State.afterSuccess_rescript]
  split
  · rfl
  · exact congrArg Host.Outcome.next (s.raiseAttempt_rescript r _)

theorem State.moveSettle_rescript : (s.rescript r).moveSettle = s.moveSettle.rescript r :=
  s.perform_rescript r (.busDelay s.settleMs) (k := fun t => State.record { t with tpd.tst := .read } [.busRead 11])
    fun _ => rfl

theorem State.moveGap_rescript : (s.rescript r).moveGap = s.moveGap.rescript r :=
  s.perform_rescript r (.busDelay s.gapMs)
    (k := fun t => { t with tpd.tryNo := t.tpd.tryNo + 1, tpd.tst := .build }) fun _ => rfl

theorem State.moveWrite_rescript : (s.rescript r).moveWrite = s.moveWrite.rescript r := by
  have answers : (s.rescript r).env.writes = s.env.writes := rfl
  rw [State.moveWrite, State.moveWrite, answers]
  cases s.env.writes with
  | nil => rfl
  | cons a rest =>
    cases a with
    | ok => rfl
    | err =>
      exact State.perform_rescript r (State.record { s with env.writes := rest } [.writeAnswer .err]) .busEnd
        (k := fun t => t.raiseAttempt .busWrite) fun t => t.raiseAttempt_rescript r .busWrite

theorem State.moveRead_rescript : (s.rescript r).moveRead = s.moveRead.rescript r := by
  have answers : (s.rescript r).env.reads = s.env.reads := rfl
  rw [State.moveRead, State.moveRead, answers]
  cases s.env.reads with
  | nil => rfl
  | cons a rest =>
    cases a with
    | bytes f =>
      exact State.perform_rescript r (State.record { s with env.reads := rest } [.readAnswer (.bytes f)]) .busEnd
        (k := fun t => { t with tpd.xbuf := f, tpd.tst := .check }) fun _ => rfl
    | err =>
      exact State.perform_rescript r (State.record { s with env.reads := rest } [.readAnswer .err]) .busEnd
        (k := fun t =>
          State.raiseAttempt { t with env.draws := t.env.draws + 11, tpd.xbuf := drawFrame t.env.draws } .busRead)
        fun t => State.raiseAttempt_rescript r
          { t with env.draws := t.env.draws + 11, tpd.xbuf := drawFrame t.env.draws } .busRead

/-- The engine moves alike whatever the host does next. -/
theorem State.fetchEngine_rescript :
    (s.rescript r).fetchEngine.run = mapNext (State.rescript r) s.fetchEngine.run := by
  cases busy : s.hif.busy with
  | false => rw [State.fetchEngine_free busy, State.fetchEngine_free (s := s.rescript r) busy]; rfl
  | true =>
    cases tst : s.tpd.tst with
    | idle =>
      rw [State.fetchEngine_tpdIdle busy tst, State.fetchEngine_tpdIdle (s := s.rescript r) busy tst]
      exact s.fetchDecoder_reframe r fun _ _ => rfl
    | build =>
      have command : (s.rescript r).command = s.command := rfl
      rw [State.run_build busy tst, State.run_build (s := s.rescript r) busy tst, command, State.command]
      split
      · exact congrArg Host.Outcome.next (s.sendCommand_rescript r _)
      · exact congrArg Host.Outcome.next
          (State.sendCommand_rescript r { s with tpd.page := s.tpd.reqPage } (readImage s.tpd.reqPage))
    | write =>
      rw [State.run_write busy tst, State.run_write (s := s.rescript r) busy tst]
      exact congrArg Host.Outcome.next (s.unlessStuck_rescript r (s.moveWrite_rescript r))
    | settle =>
      rw [State.run_settle busy tst, State.run_settle (s := s.rescript r) busy tst]
      exact congrArg Host.Outcome.next (s.unlessStuck_rescript r (s.moveSettle_rescript r))
    | read =>
      rw [State.run_read busy tst, State.run_read (s := s.rescript r) busy tst]
      exact congrArg Host.Outcome.next (s.unlessStuck_rescript r (s.moveRead_rescript r))
    | check =>
      rw [State.run_check busy tst, State.run_check (s := s.rescript r) busy tst]
      exact execResp_rescript r s _
    | gap =>
      rw [State.run_gap busy tst, State.run_gap (s := s.rescript r) busy tst]
      exact congrArg Host.Outcome.next (s.unlessStuck_rescript r (s.moveGap_rescript r))

/-- What the engine does without a host access, it does with any script standing. -/
theorem State.fetchEngine_of_emptyScript {t : State} (rest : List HostEvent) (released : s.env.rst = false)
    (next : step { s with env.script := [] } = .next t) :
    (State.fetchEngine { s with env.script := rest }).run = .next { t with env.script := rest } := by
  have engine : (State.fetchEngine { s with env.script := [] }).run = .next t := by
    rw [← next, step_of_nil (s := { s with env.script := [] }) released rfl]
  have alike := State.fetchEngine_rescript (fun _ => rest) { s with env.script := [] }
  rw [engine] at alike
  exact alike

end

/-- An operation without an operand is the same whatever `ARG` is (R91). -/
theorem decodeHostReq_arg_irrelevant {op : Byte} (a b : Byte) (noOperand : hasOperand op = false) :
    decodeHostReq op a = decodeHostReq op b := by
  simp only [hasOperand, Bool.or_eq_false_iff, beq_eq_false_iff_ne] at noOperand
  obtain ⟨⟨notRdp, notRdpr⟩, notTbapp⟩ := noOperand
  simp only [decodeHostReq, notRdp, notRdpr, notTbapp, if_false]

/-! ## The obligation -/

/-- Settles O9, clause by clause, by the equation of the host access or of the machine's state. -/
theorem stepFetchesBySequencingState : Obligations.StepFetchesBySequencingState := by
  unfold Obligations.StepFetchesBySequencingState
  intro s released
  refine ⟨fun v rest script => ?writeOp, fun op a rest free script => ?request,
    fun w rest t busy script next => ?waiting, fun rest t script next => ?pause, fun h selecting => ?select,
    fun h reading => ?read, fun h => ?response, fun b h dst below valued => ?type,
    fun bs i h dst window decoded => ?length,
    fun h dst => ?dispatch, fun bs i h dst outside inMessage below window decoded => ?header,
    fun bs i h dst inBody window decoded => ?recordClass⟩
  case writeOp => exact step_of_writeOp released script
  case request =>
    have high : highByte (op ++ a) = op := BitVec.extractLsb'_append_eq_left
    have low : lowByte (op ++ a) = a := BitVec.extractLsb'_append_eq_right
    rw [step_of_request_idle released script free, State.issueRequest, high, low]
    have operand : hasOperand op = true ↔ op = 0x10 ∨ op = 0x90 ∨ op = 0x41 := by
      simp [hasOperand, or_assoc]
    simp only [← operand]
    split
    case isTrue => rfl
    case isFalse noOperand => rw [decodeHostReq_arg_irrelevant a s.hif.arg (by simpa using noOperand)]; rfl
  case waiting =>
    rw [step_of_request_busy released script busy]
    exact s.fetchEngine_of_emptyScript s.env.script released next
  case pause =>
    rw [step_of_pause released script]
    exact s.fetchEngine_of_emptyScript rest released next
  case select =>
    obtain ⟨busy, tst, -⟩ := id h
    rw [h.step_eq, State.run_build busy tst, State.command, if_pos selecting]
  case read =>
    obtain ⟨busy, tst, -⟩ := id h
    rw [h.step_eq, State.run_build busy tst, State.command, if_neg (by simp [reading])]
  case response =>
    obtain ⟨busy, tst, -⟩ := id h
    rw [h.step_eq, State.run_check busy tst]
  case type =>
    rw [h.step_eq, State.fetchDecoder_readType dst below, State.fetchWindow_some (State.window_one below valued)]
    rfl
  case length =>
    rw [h.step_eq, State.fetchDecoder_readLength dst, State.fetchWindow_some window, Fetched.run_element s decoded]
  case dispatch => rw [h.step_eq, State.run_dispatch dst]
  case header =>
    rw [h.step_eq, State.fetchDecoder_header dst outside inMessage below, State.fetchWindow_some window,
      Fetched.run_element s decoded]
  case recordClass =>
    rw [h.step_eq, State.fetchDecoder_body dst inBody, State.fetchClass_some window, Fetched.run_element s decoded]

end Sys2Proof.Machine
end

section
/-! The decoder unit's elements one by one (R80, R176 to R203): the checked cursor, the types, the length field, the
record headers, the Text record and the cut fields; obligations O34 to O44. -/

namespace Sys2Proof.Machine

/-! ## Numbers that fit the cursor (R16, R80) -/

/-- A number at or below `CE` fits the 16-bit cursor. -/
theorem ofNat_toNat_of_le {n : Nat} {ce : Half} (below : n ≤ ce.toNat) : (BitVec.ofNat 16 n).toNat = n := by
  have ceFits := ce.isLt
  rw [BitVec.toNat_ofNat, Nat.mod_eq_of_lt (by omega)]

@[simp] theorem ofNat_toNat_half (v : Half) : BitVec.ofNat 16 v.toNat = v := by
  rw [BitVec.ofNat_toNat, BitVec.setWidth_eq]

theorem beNat_singleton (b : Byte) : beNat [b] = b.toNat := by
  simp [beNat]

/-! ## The checked cursor (R80) -/

section
variable (s : State)

/-- A field that fits and holds values. -/
theorem State.take_whole {n : Nat} {bs : List Byte} (fits : s.ndd.idx.toNat + n ≤ s.ndd.ce.toNat)
    (valued : Memory.readRange s.tb.cells s.ndd.idx.toNat n = some bs) :
    s.take n = .ok (beNat bs) (s.setIdx (s.ndd.idx.toNat + n)) := by
  obtain ⟨cut, -⟩ | ⟨-, ⟨bs', valued', taken⟩ | ⟨none, -⟩⟩ := s.take_cases n
  · omega
  · rw [taken, Option.some.inj (valued'.symm.trans valued)]
  · simp [none] at valued

theorem State.take_cut {n : Nat} (cut : s.ndd.ce.toNat < s.ndd.idx.toNat + n) :
    s.take n = .exhausted { s with ndd.idx := s.ndd.ce } := by
  rw [State.take, if_pos cut, State.setIdx, ofNat_toNat_half]

/-- A one-byte field that fits and holds a value. -/
theorem State.take_byte {b : Byte} (fits : s.ndd.idx.toNat + 1 ≤ s.ndd.ce.toNat)
    (valued : Memory.read s.tb.cells s.ndd.idx.toNat = some b) :
    s.take 1 = .ok b.toNat (s.setIdx (s.ndd.idx.toNat + 1)) := by
  rw [s.take_whole fits (bs := [b]) (by simp [Memory.readRange, valued]), beNat_singleton]

/-- Settles O42. -/
theorem checkedCursor : Obligations.CheckedCursor := by
  unfold Obligations.CheckedCursor
  intro s n _
  exact ⟨s.take_cut, fun bs fits valued => ⟨_, s.take_whole fits valued, rfl, ofNat_toNat_of_le fits⟩, s.skip_le n⟩

/-! ## The ends of a scan, as updates of the state (R178, R225) -/

theorem State.exhaust_eq : s.exhaust = { s with
    hif.res := .notFound, hif.cause := .truncated, ndd.idx := s.ndd.ce, ndd.txtOff := 0, ndd.txtLen := 0,
    ndd.dst := .done } := by
  rw [State.exhaust, State.setIdx, ofNat_toNat_half]
  rfl

theorem State.lengthCut_eq : s.lengthCut = { s with
    hif.res := .notFound, hif.cause := if s.ndd.tlvT = 0xFE then .terminator else .truncated, ndd.idx := s.ndd.ce,
    ndd.txtOff := 0, ndd.txtLen := 0, ndd.dst := .done } := by
  rw [State.lengthCut, State.exhaust_eq, State.setIdx, ofNat_toNat_half]
  change (if s.ndd.tlvT = 0xFE then _ else _) = _
  split <;> rfl

/-- A completed decoder: the transactor is idle already. -/
theorem State.complete_of_tpdIdle (tst : s.tpd.tst = .idle) :
    s.complete = { s with hif.busy := false, hif.done := true, ndd.dst := .idle } := by
  have sameTpd : { s.tpd with tst := .idle } = s.tpd := by rw [← tst]
  simp only [State.complete, sameTpd]

/-! ## TLV types and lengths (R176 to R182) -/

/-- The elements of the types that have a length. -/
theorem exec_tlvNdef_read (reading : s.ndd.dst ≠ .dispatch) :
    exec .tlvNdef s = .next (s.readType Config.tlvNdef .readLength) := if_neg reading

theorem exec_tlvTerminator_read (reading : s.ndd.dst ≠ .dispatch) :
    exec .tlvTerminator s = .next (s.readType Config.tlvTerm .readLength) := if_neg reading

theorem exec_tlvOpaque_read (b : Byte) (reading : s.ndd.dst ≠ .dispatch) :
    exec (.tlvOpaque b) s = .next (s.readType b .readLength) := if_neg reading

theorem exec_tlvNdef_dispatched (dispatched : s.ndd.dst = .dispatch) :
    exec .tlvNdef s = .next { s with ndd.dst := .record, ndd.inBody := false } := if_pos dispatched

theorem exec_tlvTerminator_dispatched (dispatched : s.ndd.dst = .dispatch) :
    exec .tlvTerminator s = .next (s.raiseDecode .terminator) := if_pos dispatched

theorem exec_tlvOpaque_dispatched (b : Byte) (dispatched : s.ndd.dst = .dispatch) :
    exec (.tlvOpaque b) s = .next { s.skip (s.ndd.idx.toNat + s.ndd.tlvL.toNat) with ndd.dst := .readType } :=
  if_pos dispatched

end

/-- Settles O34: outside dispatch each of the three types is one `ReadType`. -/
theorem tlvTypeReadBeforeItsLength : Obligations.TlvTypeReadBeforeItsLength := by
  unfold Obligations.TlvTypeReadBeforeItsLength
  intro i b s dst below which
  have reading : s.ndd.dst ≠ .dispatch := by simp [dst]
  refine ⟨s.readType b .readLength, ?_, s.readType_frame b .readLength, s.readType_idx_toNat b .readLength below⟩
  obtain ⟨rfl, rfl⟩ | ⟨rfl, rfl⟩ | rfl := which
  · exact exec_tlvNdef_read s reading
  · exact exec_tlvTerminator_read s reading
  · exact exec_tlvOpaque_read s b reading

/-- Settles O35. -/
theorem tlvDispatch : Obligations.TlvDispatch := by
  unfold Obligations.TlvDispatch
  intro s dispatched
  exact ⟨exec_tlvNdef_dispatched s dispatched, exec_tlvTerminator_dispatched s dispatched,
    fun b => ⟨_, exec_tlvOpaque_dispatched s b dispatched, rfl, s.skip_le _⟩⟩

/-- Below `CE` neither the cursor nor `MSGEND` wraps (R179). -/
theorem State.readLength_toNat (s : State) (n : Nat) (l : Half) (fits : s.ndd.idx.toNat + n ≤ s.ndd.ce.toNat) :
    (s.readLength n l).ndd.idx.toNat = s.ndd.idx.toNat + n ∧
      (s.readLength n l).ndd.msgend.toNat = s.ndd.idx.toNat + n + l.toNat := by
  have ceFits := s.ndd.ce.isLt
  have lFits := l.isLt
  refine ⟨ofNat_toNat_of_le fits, ?_⟩
  rw [State.readLength_ndd_msgend, BitVec.toNat_ofNat, Nat.mod_eq_of_lt (by omega)]

/-- Settles O36: both forms are one `ReadLength`. -/
theorem lengthFieldRead : Obligations.LengthFieldRead := by
  unfold Obligations.LengthFieldRead
  intro i n l s which fits
  obtain ⟨b, rfl, rfl, rfl⟩ | ⟨v, rfl, rfl, rfl⟩ := which
  · have widened : (b.setWidth 16).toNat = b.toNat := BitVec.toNat_setWidth_of_le (by decide)
    obtain ⟨idx, msgend⟩ := s.readLength_toNat 1 (b.setWidth 16) fits
    exact ⟨s.readLength 1 (b.setWidth 16), rfl, rfl, widened, idx, msgend.trans (by rw [widened])⟩
  · obtain ⟨idx, msgend⟩ := s.readLength_toNat 3 v fits
    exact ⟨s.readLength 3 v, rfl, rfl, rfl, idx, msgend⟩

/-! ## Records (R196 to R203) -/

/-- Settles O37: each layout is one `ReadRecordHeader`. -/
theorem recordHeadersRead : Obligations.RecordHeadersRead := by
  unfold Obligations.RecordHeadersRead
  intro i n h tl il pl s which fits
  refine ⟨s.readHeader n h tl pl il, ?_, rfl, ofNat_toNat_of_le fits⟩
  obtain ⟨f, p, rfl, rfl, rfl, rfl, rfl⟩ | ⟨f, p, rfl, rfl, rfl, rfl⟩ | ⟨f, rfl, rfl, rfl, rfl⟩ | ⟨f, rfl, rfl, rfl⟩ :=
    which <;> rfl

theorem State.passRecord_idx_toNat (s : State) : s.passRecord.ndd.idx.toNat = min s.recordEnd s.ndd.ce.toNat :=
  s.skip_le s.recordEnd

/-- Settles O41. -/
theorem otherRecordPassed : Obligations.OtherRecordPassed := by
  unfold Obligations.OtherRecordPassed
  exact fun s => ⟨s.passRecord, rfl, rfl, s.passRecord_idx_toNat⟩

section
variable {s : State}

/-- The state behind the language length `g` of a Text record (R198). -/
def State.behindLanguage (s : State) (g : Byte) : State :=
  { s.pastId.setIdx (s.pastId.ndd.idx.toNat + 1) with ndd.langlen := g }

theorem State.pastId_idx_toNat (s : State) :
    s.pastId.ndd.idx.toNat = min (s.ndd.idx.toNat + 1 + s.ndd.ridlen.toNat) s.ndd.ce.toNat :=
  State.skip_le _ _

theorem State.behindLanguage_idx_toNat (g : Byte)
    (fits : s.ndd.idx.toNat + 1 + s.ndd.ridlen.toNat + 1 ≤ s.ndd.ce.toNat) :
    (s.behindLanguage g).ndd.idx.toNat = s.ndd.idx.toNat + 1 + s.ndd.ridlen.toNat + 1 := by
  have past := s.pastId_idx_toNat
  have fitsThere : s.pastId.ndd.idx.toNat + 1 ≤ s.ndd.ce.toNat := by omega
  change (BitVec.ofNat 16 (s.pastId.ndd.idx.toNat + 1)).toNat = _
  rw [ofNat_toNat_of_le fitsThere]
  omega

/-- A Text record without a payload is rejected (R199). -/
theorem execRecText_noPayload (noPayload : s.ndd.paylen = 0) : execRecText s = .next s.pastId.rejectRecord := by
  rw [execRecText_eq, if_pos noPayload]

/-- A Text record whose language length lies before `CE` (R198). -/
theorem execRecText_language {g : Byte} (payload : s.ndd.paylen ≠ 0)
    (fits : s.ndd.idx.toNat + 1 + s.ndd.ridlen.toNat + 1 ≤ s.ndd.ce.toNat)
    (valued : Memory.read s.tb.cells (s.ndd.idx.toNat + 1 + s.ndd.ridlen.toNat) = some g) :
    execRecText s = .next (s.behindLanguage g).textBody := by
  have past : s.pastId.ndd.idx.toNat = s.ndd.idx.toNat + 1 + s.ndd.ridlen.toNat := by
    rw [s.pastId_idx_toNat]; omega
  have taken := s.pastId.take_byte (b := g)
    (show s.pastId.ndd.idx.toNat + 1 ≤ s.ndd.ce.toNat by omega) (by rw [past]; exact valued)
  rw [execRecText_eq, if_neg payload, taken]
  simp only [BitVec.ofNat_toNat, BitVec.setWidth_eq]
  rfl

/-- A Text record with no language-length byte before `CE` (R203). -/
theorem execRecText_cut (payload : s.ndd.paylen ≠ 0)
    (cut : s.ndd.ce.toNat < s.ndd.idx.toNat + 1 + s.ndd.ridlen.toNat + 1) :
    execRecText s = .next s.pastId.exhaust := by
  have past := s.pastId_idx_toNat
  rw [execRecText_eq, if_neg payload, s.pastId.take_cut (show s.ndd.ce.toNat < s.pastId.ndd.idx.toNat + 1 by omega),
    State.exhaust, State.setIdx, ofNat_toNat_half]

end

/-- Settles O38: behind the language length `textBody` finds the text. -/
theorem textFound : Obligations.TextFound := by
  unfold Obligations.TextFound
  intro s g fits valued prefixFits textFits
  have payload : s.ndd.paylen ≠ 0 := by rintro none; simp [none] at prefixFits
  have ceFits := s.ndd.ce.isLt
  have idx := State.behindLanguage_idx_toNat g fits
  obtain ⟨overrun, -⟩ | ⟨-, cut, -⟩ | ⟨-, -, found⟩ := (s.behindLanguage g).textBody_cases
  · change s.ndd.paylen.toNat < 1 + g.toNat at overrun
    omega
  · change s.ndd.ce.toNat < _ + g.toNat + (s.ndd.paylen.toNat - 1 - g.toNat) at cut
    omega
  · change _ = (s.behindLanguage g).raiseFound (_ + g.toNat) (s.ndd.paylen.toNat - 1 - g.toNat) at found
    refine ⟨_, (execRecText_language payload fits valued).trans (congrArg _ found), rfl, ?_, ?_, ?_⟩
    · rw [State.raiseFound_ndd_txtOff, ofNat_toNat_of_le (ce := s.ndd.ce) (by omega)]
      omega
    · rw [State.raiseFound_ndd_txtLen, ofNat_toNat_of_le (ce := s.ndd.ce) (by omega)]
    · rw [State.raiseFound_ndd_txtOff, State.raiseFound_ndd_txtLen, State.raiseFound_ndd_idx,
        ofNat_toNat_of_le (ce := s.ndd.ce) (by omega), ofNat_toNat_of_le (ce := s.ndd.ce) (by omega),
        ofNat_toNat_of_le (ce := s.ndd.ce) (by omega)]

/-- Settles O39: both ways end in `Reject`, whose target is told by the header's registers. -/
theorem textRejected : Obligations.TextRejected := by
  unfold Obligations.TextRejected
  intro s below why
  by_cases noPayload : s.ndd.paylen = 0
  · exact ⟨_, execRecText_noPayload noPayload, rfl, State.passRecord_idx_toNat _⟩
  · obtain none | ⟨g, fits, valued, overrun⟩ := why
    · exact absurd none noPayload
    · obtain ⟨-, rejected⟩ | ⟨within, -⟩ | ⟨within, -⟩ := (s.behindLanguage g).textBody_cases
      · exact ⟨_, (execRecText_language noPayload fits valued).trans (congrArg _ rejected), rfl,
          State.passRecord_idx_toNat _⟩
      all_goals
        change 1 + g.toNat ≤ s.ndd.paylen.toNat at within
        omega

/-- Settles O40: both ways end in `BufferExhaustion`. -/
theorem textTruncated : Obligations.TextTruncated := by
  unfold Obligations.TextTruncated
  intro s below payload why
  obtain cut | ⟨g, fits, valued, prefixFits, cut⟩ := why
  · exact ⟨_, (execRecText_cut payload cut).trans (congrArg _ s.pastId.exhaust_eq), rfl⟩
  · have idx := State.behindLanguage_idx_toNat g fits
    obtain ⟨overrun, -⟩ | ⟨-, -, exhausted⟩ | ⟨-, whole, -⟩ := (s.behindLanguage g).textBody_cases
    · change s.ndd.paylen.toNat < 1 + g.toNat at overrun
      omega
    · exact ⟨_, (execRecText_language payload fits valued).trans
        (congrArg _ (exhausted.trans (s.behindLanguage g).exhaust_eq)), rfl⟩
    · change _ + g.toNat + (s.ndd.paylen.toNat - 1 - g.toNat) ≤ s.ndd.ce.toNat at whole
      omega

/-! ## The loop tests (R176, R183, R195) -/

/-- Settles O44. -/
theorem scanLoopTests : Obligations.ScanLoopTests := by
  unfold Obligations.ScanLoopTests
  intro s decoding
  refine ⟨fun dst atEnd => ?_, fun dst outside ended => ?_, fun dst => ?_⟩
  · rw [decoding.step_eq, State.fetchDecoder_endOfBuffer dst atEnd]
    rfl
  · rw [decoding.step_eq, State.fetchDecoder_messageEnd dst outside ended]
    rfl
  · obtain ⟨-, tst, -⟩ := id decoding
    rw [decoding.step_eq, State.fetchDecoder_done dst, Fetched.run_move, s.complete_of_tpdIdle tst]

/-! ## Fields that do not fit before `CE` (R178, R196, R197) -/

/-- A record's fixed part decodes from no fewer bytes than its header tells (R107). -/
theorem fixedPartSize_le_of_decode {hdr : Byte} {bs : List Byte} {i : Instr}
    (decoded : decode .ndefRec (hdr :: bs) = .ok i) : fixedPartSize hdr ≤ (hdr :: bs).length := by
  obtain ⟨hdr', tl, p0, rest, ⟨sr, il, shape, -⟩ | ⟨_, sr, il, shape, -⟩ | ⟨_, _, _, sr, il, shape, -⟩ |
    ⟨_, _, _, _, sr, il, shape, -⟩⟩ := decode_ndefRec_ok decoded <;>
    · obtain ⟨rfl, rfl⟩ := List.cons.inj shape
      simp [fixedPartSize, sr, il]

/-- An extended length field decodes from no fewer than three bytes (R101). -/
theorem three_le_of_decode_lenExt {bs : List Byte} {i : Instr} (decoded : decode .tlvLen (0xFF :: bs) = .ok i) :
    3 ≤ (0xFF :: bs).length := by
  obtain ⟨b, rest, below, shape, -⟩ | ⟨hi, lo, rest, shape, -⟩ := decode_tlvLen_ok decoded
  · exact absurd (List.cons.inj shape).1.symm below
  · obtain ⟨-, rfl⟩ := List.cons.inj shape
    simp

/-- Bytes that cannot decode are refused. -/
theorem decode_refused_of_not_ok {f : Format} {bs : List Byte} (never : ∀ i, decode f bs ≠ .ok i) :
    ∃ e, decode f bs = .refused e := by
  cases decoded : decode f bs with
  | ok i => exact absurd decoded (never i)
  | refused e => exact ⟨e, rfl⟩

section
variable {s : State} (valued : s.valuedBelowCe)
include valued

/-- Where every byte below `CE` holds a value, the window at the cursor holds its bytes. -/
theorem State.window_isSome (n : Nat) : ∃ bs, s.window n = some bs :=
  Memory.readRange_isSome _ _ _ fun i inside => valued _ (by omega)

/-- The window begins with the byte under a cursor below `CE`. -/
theorem State.window_eq_cons {n : Nat} {b : Byte} (positive : 0 < n) (below : s.ndd.idx.toNat < s.ndd.ce.toNat)
    (under : Memory.read s.tb.cells s.ndd.idx.toNat = some b) :
    ∃ bs, s.window n = some (b :: bs) ∧ (b :: bs).length = min n (s.ndd.ce.toNat - s.ndd.idx.toNat) := by
  obtain ⟨bs, window⟩ := State.window_isSome valued n
  have length := s.window_length n bs window
  have first := Memory.readRange_get _ _ _ _ window 0 (by omega)
  match bs with
  | [] => simp only [List.length_nil] at length; omega
  | b' :: bs =>
    rw [Nat.add_zero, under] at first
    obtain rfl : b = b' := by simpa using first
    exact ⟨bs, window, length⟩

end

/-- At `CE` the window is empty. -/
theorem State.window_atEnd {s : State} (n : Nat) (atEnd : s.ndd.idx = s.ndd.ce) : s.window n = some [] := by
  rw [State.window, atEnd, Nat.sub_self, Nat.min_zero]
  rfl

/-- Settles O43: the window before `CE` holds too few bytes to decode, and each format has its own refusal. -/
theorem cutFieldsEndTheScan : Obligations.CutFieldsEndTheScan := by
  unfold Obligations.CutFieldsEndTheScan
  intro s decoding valued bounded
  refine ⟨fun dst why => ?length, fun hdr dst outside inMessage below under cut => ?header,
    fun dst inBody atEnd wellKnown oneByte => ?type⟩
  case length =>
    obtain ⟨bs, window, e, refused⟩ :
        ∃ bs, s.window 3 = some bs ∧ ∃ e, decode .tlvLen bs = .refused e := by
      by_cases atEnd : s.ndd.idx = s.ndd.ce
      · exact ⟨[], State.window_atEnd 3 atEnd, .truncated, rfl⟩
      · obtain under | ⟨under, cut⟩ := why
        · exact absurd under atEnd
        · have apart : s.ndd.idx.toNat ≠ s.ndd.ce.toNat := fun same => atEnd (BitVec.eq_of_toNat_eq same)
          obtain ⟨bs, window, length⟩ := State.window_eq_cons valued (n := 3) (by omega) (by omega) under
          refine ⟨_, window, decode_refused_of_not_ok fun i decoded => ?_⟩
          have enough := three_le_of_decode_lenExt decoded
          omega
    rw [decoding.step_eq, State.fetchDecoder_readLength dst, State.fetchWindow_some window,
      Fetched.run_refused s refused, ← s.lengthCut_eq]
    rfl
  case header =>
    obtain ⟨bs, window, length⟩ := State.window_eq_cons valued (n := 7) (by omega) below under
    obtain ⟨e, refused⟩ : ∃ e, decode .ndefRec (hdr :: bs) = .refused e :=
      decode_refused_of_not_ok fun i decoded => by
        have enough := fixedPartSize_le_of_decode decoded
        have atMost : fixedPartSize hdr ≤ 7 := by unfold fixedPartSize; split_ifs <;> omega
        omega
    rw [decoding.step_eq, State.fetchDecoder_header dst outside inMessage below, State.fetchWindow_some window,
      Fetched.run_refused s refused, ← s.exhaust_eq]
    rfl
  case type =>
    have refused : decode .recClass [s.ndd.hdr, s.ndd.typelen] = .refused .truncated := by
      simp [decode, decodeRecClass, wellKnown, oneByte, Config.tnfWellKnown]
    rw [decoding.step_eq, State.fetchDecoder_body dst inBody, State.fetchClass_some (State.window_atEnd 1 atEnd),
      Fetched.run_refused s refused, ← s.exhaust_eq]
    rfl

end Sys2Proof.Machine
end

section
/-! The transactor's elements and moves one by one (R93 to R98, R131 to R136, R160, R261); obligations O11, O13 and O18
to O28. -/

namespace Sys2Proof.Machine

/-! ## Acceptance on an idle block (R90) -/

/-- An emptied TagBuffer has room for a payload whatever the capacity, so the page loop begins its first page. -/
theorem State.beginPage_tbClear (s : State) (p : Byte) : s.tbClear.beginPage p = s.tbClear.beginTries p := by
  have room := s.par.seven_le_cap
  obtain ⟨full, -⟩ | ⟨-, begun⟩ := s.tbClear.beginPage_cases p
  · change s.par.cap.toNat < 0 + 7 at full
    omega
  · exact begun

/-- `TRY` counts in the retrying operations alone (R39). -/
theorem State.beginTries_of_single (s : State) (p : Byte) (single : s.hif.retry = false) : s.beginTries p =
    { s with tpd.attempts := 0, tpd.reqPage := p, tpd.tst := .build } := by
  rw [State.beginTries, if_neg (by simp [single])]

theorem State.beginTries_of_retrying (s : State) (p : Byte) (retry : s.hif.retry = true) : s.beginTries p =
    { s with tpd.attempts := 0, tpd.tryNo := 1, tpd.reqPage := p, tpd.tst := .build } := by
  rw [State.beginTries, if_pos retry]

section
variable {s : State} (free : s.hif.busy = false)
include free

theorem exec_sel_free : exec .sel s = .next ((s.accept 0x01).beginTries 0) :=
  s.request_idle 0x01 (fun t => t.beginTries 0) free

theorem exec_selr_free : exec .selr s = .next ((s.accept 0x81).beginTries 0) :=
  s.request_idle 0x81 (fun t => t.beginTries 0) free

theorem exec_rdp_free (p : Byte) : exec (.rdp p) s = .next ((s.accept 0x10).beginTries p) :=
  s.request_idle 0x10 (fun t => t.beginTries p) free

theorem exec_rdpr_free (p : Byte) : exec (.rdpr p) s = .next ((s.accept 0x90).beginTries p) :=
  s.request_idle 0x90 (fun t => t.beginTries p) free

theorem exec_rdt_free : exec .rdt s = .next ((s.accept 0x20).tbClear.beginTries Config.firstUserPage) := by
  rw [← State.beginPage_tbClear]
  exact s.request_idle 0x20 (fun t => t.tbClear.beginPage Config.firstUserPage) free

theorem exec_rdtr_free : exec .rdtr s = .next ((s.accept 0xA0).tbClear.beginTries Config.firstUserPage) := by
  rw [← State.beginPage_tbClear]
  exact s.request_idle 0xA0 (fun t => t.tbClear.beginPage Config.firstUserPage) free

/-- The decoder unit over the TagBuffer as it stands, before its first TLV (R175). -/
theorem exec_dec_free : exec .dec s = .next { s.accept 0x30 with
    ndd.ce := s.tb.len, ndd.idx := 0, ndd.txtOff := 0, ndd.txtLen := 0, hif.badtxt := false, ndd.dst := .readType,
    ndd.inBody := false } :=
  s.request_idle 0x30 (fun t =>
    { t with ndd.ce := t.tb.len, ndd.idx := 0, ndd.txtOff := 0, ndd.txtLen := 0, hif.badtxt := false,
             ndd.dst := .readType, ndd.inBody := false }) free

theorem exec_undefinedOp_free (op : Byte) :
    exec (.undefinedOp op) s = .next ((s.accept op).endWith .refused .illegalOp) :=
  s.request_idle op (fun t => t.endWith .refused .illegalOp) free

end

/-- Settles O11. -/
theorem hostOperationsAreAccepted : Obligations.HostOperationsAreAccepted := by
  unfold Obligations.HostOperationsAreAccepted
  intro s free
  have once (op p : Byte) (t : State) (retry : op.getLsbD 7 = false) := (t.accept op).beginTries_of_single p retry
  have again (op p : Byte) (t : State) (retry : op.getLsbD 7 = true) := (t.accept op).beginTries_of_retrying p retry
  exact ⟨(exec_sel_free free).trans (congrArg _ (once 0x01 0 s rfl)),
    (exec_selr_free free).trans (congrArg _ (again 0x81 0 s rfl)),
    fun p => (exec_rdp_free free p).trans (congrArg _ (once 0x10 p s rfl)),
    fun p => (exec_rdpr_free free p).trans (congrArg _ (again 0x90 p s rfl)),
    (exec_rdt_free free).trans (congrArg _ (once 0x20 4 s.tbClear rfl)),
    (exec_rdtr_free free).trans (congrArg _ (again 0xA0 4 s.tbClear rfl)), exec_dec_free free⟩

/-- Settles O13: the accepted operation ends at once, with both units idle. -/
theorem undefinedOperationRefused : Obligations.UndefinedOperationRefused := by
  unfold Obligations.UndefinedOperationRefused
  intro op s _ free tst dst
  rw [exec_undefinedOp_free free, (s.accept op).endWith_of_idle .refused .illegalOp tst dst]
  rfl

/-! ## Primitives that return and primitives that hang (R130, R261) -/

section
variable {s : State} (free : s.tpd.stuck = false)
include free

theorem State.perform_returned (e : BusEvent) (k : State → State) (returns : s.env.returns.head? ≠ some false) :
    s.perform e k = k { s with env.hist := s.env.hist ++ [e], env.returns := s.env.returns.tail } := by
  obtain ⟨-, performed⟩ | ⟨hangs, -⟩ := s.perform_cases e k free
  · exact performed
  · exact absurd hangs returns

theorem State.perform_hung (e : BusEvent) (k : State → State) (hangs : s.env.returns.head? = some false) :
    s.perform e k =
      { s with env.hist := s.env.hist ++ [e], env.returns := s.env.returns.tail, tpd.stuck := true } := by
  obtain ⟨returns, -⟩ | ⟨-, performed⟩ := s.perform_cases e k free
  · exact absurd hangs returns
  · exact performed

/-- A command whose two primitives before the write return (R131). -/
theorem State.sendCommand_returned (image : Frame) (returns : false ∉ s.env.returns.take 2) :
    s.sendCommand image = { s with
      tpd.xbuf := image, tpd.attempts := s.tpd.attempts + 1, tpd.tst := .write,
      env.returns := s.env.returns.drop 2,
      env.hist := s.env.hist ++ [.busBegin, .busSetAddr s.par.devAddr, .busWrite (sentBytes image)] } := by
  obtain ⟨first, -⟩ | ⟨-, second, -⟩ | ⟨-, -, sent⟩ := s.sendCommand_cases image free
  · match list : s.env.returns, first with
    | false :: rest, _ => simp [list] at returns
  · match list : s.env.returns, second with
    | a :: false :: rest, _ => simp [list] at returns
  · rw [sent, ← List.drop_one, ← List.drop_one, List.drop_drop, List.append_assoc, List.append_assoc]
    rfl

end

/-- Settles O18. -/
theorem selectTagCommandSent : Obligations.SelectTagCommandSent := by
  unfold Obligations.SelectTagCommandSent
  intro s free returns
  exact congrArg Host.Outcome.next (State.sendCommand_returned free selectImage returns)

/-- Settles O19. -/
theorem readPageCommandSent : Obligations.ReadPageCommandSent := by
  unfold Obligations.ReadPageCommandSent
  intro p s free returns
  exact congrArg Host.Outcome.next
    (State.sendCommand_returned (s := { s with tpd.page := p }) free (readImage p) returns)

/-! ## The payload of a response (R30, R32, R97) -/

theorem payloadCount_le (f : Frame) (ovh : Nat) : payloadCount f ovh ≤ 7 := Nat.min_le_right _ _

/-- A count of at most 7 fits its 3-bit register. -/
theorem ofNat_toNat_of_le_seven {n : Nat} (small : n ≤ 7) : (BitVec.ofNat 3 n).toNat = n := by
  rw [BitVec.toNat_ofNat, Nat.mod_eq_of_lt (by omega)]

theorem sevenByte_payloadBytes (f : Frame) (n : Nat) {i : Nat} (inside : i < 7) :
    sevenByte (payloadBytes f n) i = if i < n then frameByte f (3 + i) else 0 := by
  interval_cases i <;> rfl

/-- The payload bytes of a frame, `n` of them (R97). -/
def payloadList (f : Frame) (n : Nat) : List Byte := (payloadBytes f n).toList.take n

theorem payloadList_length (f : Frame) {n : Nat} (small : n ≤ 7) : (payloadList f n).length = n := by
  simp [payloadList, Seven.toList, small]

theorem Seven.toList_getElem? (p : Seven) {j : Nat} (inside : j < 7) : p.toList[j]? = some (sevenByte p j) := by
  interval_cases j <;> rfl

theorem payloadList_getElem? (f : Frame) {n j : Nat} (small : n ≤ 7) (inside : j < n) :
    (payloadList f n)[j]? = some (frameByte f (3 + j)) := by
  rw [payloadList, List.getElem?_take_of_lt inside, Seven.toList_getElem? _ (by omega),
    sevenByte_payloadBytes f n (by omega), if_pos inside]

/-! ## A response validated (R98) -/

section
variable (s : State) (f : Frame)

theorem exec_resp_accepted (status : f.b2 = 0) (long : s.ovh < f.b0.toNat) :
    exec (.resp f) s = .next (s.okResults f (payloadCount f s.ovh)).afterSuccess := by
  change execResp f s = _
  obtain ⟨bad, -⟩ | ⟨-, short, -⟩ | ⟨-, -, cause⟩ := frameCause_cases f s.ovh
  · exact absurd status bad
  · omega
  · rw [execResp, cause]

theorem exec_resp_refused (refused : frameCause f s.ovh ≠ .none) :
    exec (.resp f) s = .next (s.raiseAttempt (frameCause f s.ovh)) := by
  change execResp f s = _
  unfold execResp
  split
  · exact absurd ‹_› refused
  · rfl

theorem State.not_looping_of_selecting (selecting : s.selecting = true) : s.looping = false := by
  have fn : s.hif.fn = 0x01 := by simpa [State.selecting] using selecting
  simp [State.looping, fn]

theorem State.not_selecting_of_looping (looping : s.looping = true) : s.selecting = false := by
  have fn : s.hif.fn = 0x20 := by simpa [State.looping] using looping
  simp [State.selecting, fn]

theorem State.ovh_of_selecting (selecting : s.selecting = true) : s.ovh = 3 := if_pos selecting

theorem State.ovh_of_reading (reading : s.selecting = false) : s.ovh = 2 := if_neg (by simp [reading])

theorem State.okResults_of_selecting (n : Nat) (selecting : s.selecting = true) : s.okResults f n =
    { s with tpd.tagid := payloadBytes f n, tpd.idlen := BitVec.ofNat 3 n, tpd.tagtype := frameByte f (3 + n),
             hif.res := .ok, hif.cause := .none } := if_pos selecting

theorem State.okResults_of_reading (n : Nat) (reading : s.selecting = false) : s.okResults f n =
    { s with tpd.pdata := payloadBytes f n, tpd.plen := BitVec.ofNat 3 n, hif.res := .ok, hif.cause := .none } :=
  if_neg (by simp [reading])

theorem State.afterSuccess_of_looping (looping : s.looping = true) : s.afterSuccess = s.loopAppend := if_pos looping

theorem State.afterSuccess_of_single (single : s.looping = false) : s.afterSuccess = s.complete :=
  if_neg (by simp [single])

/-- An accepted response of a select, whole (R133). -/
theorem exec_resp_select (selecting : s.selecting = true) (status : f.b2 = 0) (long : 3 < f.b0.toNat) :
    exec (.resp f) s = .next (State.complete { s with
      tpd.tagid := payloadBytes f (payloadCount f 3), tpd.idlen := BitVec.ofNat 3 (payloadCount f 3),
      tpd.tagtype := frameByte f (3 + payloadCount f 3), hif.res := .ok, hif.cause := .none }) := by
  have ovh := s.ovh_of_selecting selecting
  rw [exec_resp_accepted s f status (by rw [ovh]; exact long), ovh, s.okResults_of_selecting f _ selecting]
  exact congrArg Host.Outcome.next (State.afterSuccess_of_single _ (s.not_looping_of_selecting selecting))

/-- An accepted response of `RDP` or `RDPR`, whole (R135). -/
theorem exec_resp_read (reading : s.selecting = false) (single : s.looping = false) (status : f.b2 = 0)
    (long : 2 < f.b0.toNat) :
    exec (.resp f) s = .next (State.complete { s with
      tpd.pdata := payloadBytes f (payloadCount f 2), tpd.plen := BitVec.ofNat 3 (payloadCount f 2),
      hif.res := .ok, hif.cause := .none }) := by
  have ovh := s.ovh_of_reading reading
  rw [exec_resp_accepted s f status (by rw [ovh]; exact long), ovh, s.okResults_of_reading f _ reading]
  exact congrArg Host.Outcome.next (State.afterSuccess_of_single _ single)

end

/-- Settles O20. -/
theorem selectResponseAccepted : Obligations.SelectResponseAccepted := by
  unfold Obligations.SelectResponseAccepted
  intro f s selecting status long
  exact ⟨_, exec_resp_select s f selecting status long, rfl, ofNat_toNat_of_le_seven (payloadCount_le f 3),
    fun i inside => sevenByte_payloadBytes f _ inside, rfl⟩

/-- Settles O21. -/
theorem readResponseAccepted : Obligations.ReadResponseAccepted := by
  unfold Obligations.ReadResponseAccepted
  intro f s reading single status long
  exact ⟨_, exec_resp_read s f reading single status long, rfl, ofNat_toNat_of_le_seven (payloadCount_le f 2),
    fun i inside => sevenByte_payloadBytes f _ inside⟩

/-! ## The append of a payload (R62, R160) -/

section
variable (s : State) (bs : List Byte)

@[simp] theorem State.tbAppend_par : (s.tbAppend bs).par = s.par := by rw [State.tbAppend_frame]
@[simp] theorem State.tbAppend_tpd : (s.tbAppend bs).tpd = s.tpd := by rw [State.tbAppend_frame]
@[simp] theorem State.tbAppend_ndd : (s.tbAppend bs).ndd = s.ndd := by rw [State.tbAppend_frame]
@[simp] theorem State.tbAppend_env : (s.tbAppend bs).env = s.env := by rw [State.tbAppend_frame]

end

theorem State.tbAppend_len_toNat (bs : List Byte) (s : State)
    (room : s.tb.len.toNat + bs.length ≤ s.par.cap.toNat) :
    (s.tbAppend bs).tb.len.toNat = s.tb.len.toNat + bs.length := by
  induction bs generalizing s with
  | nil => rfl
  | cons b bs ih =>
    rw [List.length_cons] at room
    have pushed := s.tbPush_len_toNat b (by omega)
    rw [State.tbAppend_cons, ih (s.tbPush b) (by rw [pushed, State.tbPush_par]; omega), pushed, List.length_cons]
    omega

/-- The bytes appended stand behind `TB_LEN` in order; every other byte reads as before. -/
theorem State.read_tbAppend (bs : List Byte) (s : State) (room : s.tb.len.toNat + bs.length ≤ s.par.cap.toNat)
    (a : Nat) : Memory.read (s.tbAppend bs).tb.cells a =
      if s.tb.len.toNat ≤ a ∧ a < s.tb.len.toNat + bs.length then bs[a - s.tb.len.toNat]?
      else Memory.read s.tb.cells a := by
  induction bs generalizing s with
  | nil => rw [State.tbAppend_nil, if_neg (by simp)]
  | cons b bs ih =>
    rw [List.length_cons] at room
    have pushed := s.tbPush_len_toNat b (by omega)
    rw [State.tbAppend_cons, ih (s.tbPush b) (by rw [pushed, State.tbPush_par]; omega), pushed, s.read_tbPush,
      List.length_cons]
    by_cases inside : s.tb.len.toNat + 1 ≤ a ∧ a < s.tb.len.toNat + 1 + bs.length
    · rw [if_pos inside, if_pos (by omega), show a - s.tb.len.toNat = a - (s.tb.len.toNat + 1) + 1 by omega]
      rfl
    · rw [if_neg inside]
      by_cases atLen : a = s.tb.len.toNat
      · rw [if_pos atLen, if_pos (by omega), atLen, Nat.sub_self]
        rfl
      · rw [if_neg atLen, if_neg (by omega)]

/-- The state behind an accepted response of the page loop, its payload appended and the loop's end tests to come. -/
def State.pageAppended (s : State) (f : Frame) : State :=
  State.tbAppend { s with
    tpd.pdata := payloadBytes f (payloadCount f 2), tpd.plen := BitVec.ofNat 3 (payloadCount f 2),
    hif.res := .ok, hif.cause := .none } (payloadList f (payloadCount f 2))

/-- An accepted response of the page loop: behind page 255, without room for another payload, or going on (R160). -/
theorem exec_resp_loop (s : State) (f : Frame) (looping : s.looping = true) (status : f.b2 = 0)
    (long : 2 < f.b0.toNat) : exec (.resp f) s = .next (
      if s.tpd.reqPage = Config.lastPage then (s.pageAppended f).endWith .ok .lastPage
      else (s.pageAppended f).beginPage (s.tpd.reqPage + 1)) := by
  have reading := s.not_selecting_of_looping looping
  have ovh := s.ovh_of_reading reading
  rw [exec_resp_accepted s f status (by rw [ovh]; exact long), ovh, s.okResults_of_reading f _ reading]
  refine congrArg Host.Outcome.next ((State.afterSuccess_of_looping _ (by exact looping)).trans ?_)
  simp only [State.loopAppend, ofNat_toNat_of_le_seven (payloadCount_le f 2)]
  rfl

section
variable (s : State) (f : Frame)

@[simp] theorem State.pageAppended_par : (s.pageAppended f).par = s.par := State.tbAppend_par _ _
@[simp] theorem State.pageAppended_hif : (s.pageAppended f).hif = { s.hif with res := .ok, cause := .none } :=
  State.tbAppend_hif _ _
@[simp] theorem State.pageAppended_tpd : (s.pageAppended f).tpd =
    { s.tpd with pdata := payloadBytes f (payloadCount f 2), plen := BitVec.ofNat 3 (payloadCount f 2) } :=
  State.tbAppend_tpd _ _
@[simp] theorem State.pageAppended_ndd : (s.pageAppended f).ndd = s.ndd := State.tbAppend_ndd _ _
@[simp] theorem State.pageAppended_env : (s.pageAppended f).env = s.env := State.tbAppend_env _ _

theorem State.pageAppended_len_toNat (room : s.tb.len.toNat + 7 ≤ s.par.cap.toNat) :
    (s.pageAppended f).tb.len.toNat = s.tb.len.toNat + payloadCount f 2 := by
  have count := payloadCount_le f 2
  have length := payloadList_length f count
  refine (State.tbAppend_len_toNat _ _ ?_).trans (by rw [length])
  rw [length]
  change s.tb.len.toNat + payloadCount f 2 ≤ s.par.cap.toNat
  omega

theorem State.read_pageAppended (room : s.tb.len.toNat + 7 ≤ s.par.cap.toNat) (a : Nat) :
    Memory.read (s.pageAppended f).tb.cells a =
      if s.tb.len.toNat ≤ a ∧ a < s.tb.len.toNat + payloadCount f 2
      then some (frameByte f (3 + (a - s.tb.len.toNat))) else Memory.read s.tb.cells a := by
  have count := payloadCount_le f 2
  have length := payloadList_length f count
  refine (State.read_tbAppend _ _ ?_ a).trans ?_
  · rw [length]
    change s.tb.len.toNat + payloadCount f 2 ≤ s.par.cap.toNat
    omega
  · rw [length]
    change (if s.tb.len.toNat ≤ a ∧ a < s.tb.len.toNat + payloadCount f 2 then _ else Memory.read s.tb.cells a) = _
    split
    case isTrue inside => exact payloadList_getElem? f count (by change a - s.tb.len.toNat < _; omega)
    case isFalse => rfl

end

/-- Settles O22: the payload appended, then the loop's three ways on. -/
theorem loopResponseAppended : Obligations.LoopResponseAppended := by
  unfold Obligations.LoopResponseAppended
  intro f s looping status long room
  have count : (BitVec.ofNat 3 (payloadCount f 2)).toNat = payloadCount f 2 :=
    ofNat_toNat_of_le_seven (payloadCount_le f 2)
  have length := s.pageAppended_len_toNat f room
  have bytes := s.read_pageAppended f room
  have counted : min (f.b0.toNat - 2) 7 = payloadCount f 2 := rfl
  refine ⟨_, exec_resp_loop s f looping status long, ?_⟩
  rw [counted]
  by_cases last : s.tpd.reqPage = 255
  · rw [if_pos (show s.tpd.reqPage = Config.lastPage from last)]
    refine ⟨length, bytes, ?_⟩
    simp [count, last]
  · rw [if_neg (show ¬s.tpd.reqPage = Config.lastPage from last)]
    obtain ⟨full, ended⟩ | ⟨fits, begun⟩ := (s.pageAppended f).beginPage_cases (s.tpd.reqPage + 1)
    · have stops : s.par.cap.toNat < (s.pageAppended f).tb.len.toNat + 7 := by
        rwa [State.pageAppended_par] at full
      rw [ended]
      refine ⟨length, bytes, ?_⟩
      simpa [count, stops] using last
    · have goesOn : (s.pageAppended f).tb.len.toNat + 7 ≤ s.par.cap.toNat := by
        rwa [State.pageAppended_par] at fits
      rw [begun]
      refine ⟨length, bytes, ?_⟩
      simpa [count, goesOn] using last

/-! ## A failed attempt (R132 to R136, R160) -/

section
variable (s : State) (c : Cause)

@[simp] theorem State.failResults_retry : (s.failResults c).hif.retry = s.hif.retry := by
  unfold State.failResults
  split <;> rfl
@[simp] theorem State.failResults_tryNo : (s.failResults c).tpd.tryNo = s.tpd.tryNo := by
  unfold State.failResults
  split <;> rfl
@[simp] theorem State.failResults_maxTries : (s.failResults c).maxTries = s.maxTries := by
  unfold State.failResults
  split <;> rfl
@[simp] theorem State.failResults_looping : (s.failResults c).looping = s.looping := by
  unfold State.failResults
  split <;> rfl

theorem State.failResults_of_selecting (selecting : s.selecting = true) : s.failResults c =
    { s with tpd.tagid := Seven.zero, tpd.idlen := 0, tpd.tagtype := 0, hif.res := .notPresent, hif.cause := c } :=
  if_pos selecting

theorem State.failResults_of_reading (reading : s.selecting = false) : s.failResults c =
    { s with tpd.pdata := Seven.zero, tpd.plen := 0, hif.res := .noMorePages, hif.cause := c } :=
  if_neg (by simp [reading])

/-- What a failed attempt can do, by whether tries are left and by the operation. -/
theorem State.raiseAttempt_cases :
    (s.hif.retry = true ∧ s.tpd.tryNo.toNat < s.maxTries ∧
        s.raiseAttempt c = { s.failResults c with tpd.tst := .gap }) ∨
      (¬(s.hif.retry = true ∧ s.tpd.tryNo.toNat < s.maxTries) ∧ s.looping = true ∧
        s.raiseAttempt c = (s.failResults c).endWith .ok c) ∨
      (¬(s.hif.retry = true ∧ s.tpd.tryNo.toNat < s.maxTries) ∧ s.looping = false ∧
        s.raiseAttempt c = (s.failResults c).complete) := by
  have cause : (s.failResults c).hif.cause = c := by
    unfold State.failResults
    split <;> rfl
  have cases := (s.failResults c).afterFailure_cases
  rw [cause] at cases
  rw [← s.failResults_retry c, ← s.failResults_tryNo c, ← s.failResults_maxTries c, ← s.failResults_looping c]
  exact cases

theorem State.raiseAttempt_attemptFailed : attemptFailed s (s.raiseAttempt c) c ∧
    (s.raiseAttempt c).tpd.xbuf = s.tpd.xbuf ∧ (s.raiseAttempt c).env = s.env := by
  have bound : s.maxTries = if s.selecting = true then 10 else 12 := rfl
  have results : s.failResults c =
      if s.selecting = true then { s with
        tpd.tagid := Seven.zero, tpd.idlen := 0, tpd.tagtype := 0, hif.res := .notPresent, hif.cause := c }
      else { s with tpd.pdata := Seven.zero, tpd.plen := 0, hif.res := .noMorePages, hif.cause := c } := rfl
  have single := s.not_looping_of_selecting
  obtain ⟨retry, left, again⟩ | ⟨none, looping, ended⟩ | ⟨none, looping, ended⟩ := s.raiseAttempt_cases c
  · rw [bound] at left
    rw [again, results]
    cases selecting : s.selecting <;> simp_all [attemptFailed]
  · have reading := s.not_selecting_of_looping looping
    rw [bound, reading] at none
    rw [ended, results, reading]
    simp_all [attemptFailed]
  · rw [bound] at none
    rw [ended, results]
    cases selecting : s.selecting <;> simp_all [attemptFailed]

end

/-- Settles O23. -/
theorem responseRefused : Obligations.ResponseRefused := by
  unfold Obligations.ResponseRefused
  intro f s c why
  have cause : frameCause f s.ovh = c ∧ c ≠ .none := by
    obtain ⟨bad, found⟩ | ⟨good, short, found⟩ | ⟨good, long, -⟩ := frameCause_cases f s.ovh <;>
      obtain ⟨status, rfl⟩ | ⟨status, tooShort, rfl⟩ := why
    · exact ⟨found, by simp⟩
    · exact absurd status bad
    · exact absurd good status
    · exact ⟨found, by simp⟩
    · exact absurd good status
    · exact absurd (show f.b0.toNat ≤ s.ovh from tooShort) (by omega)
  obtain ⟨rfl, refused⟩ := cause
  exact ⟨_, exec_resp_refused s f refused, s.raiseAttempt_attemptFailed _⟩

/-! ## The moves of an attempt, one equation each (R131) -/

/-- The image the running operation builds (R93, R94). -/
def State.commandImage (s : State) : Frame := if s.selecting then selectImage else readImage s.tpd.reqPage

/-- The state behind a command sent: `PAGE` is written by a page read alone (R28). -/
def State.commandSent (s : State) : State := { s with
  tpd.page := if s.selecting then s.tpd.page else s.tpd.reqPage, tpd.xbuf := s.commandImage,
  tpd.attempts := s.tpd.attempts + 1, tpd.tst := .write, env.returns := s.env.returns.drop 2,
  env.hist := s.env.hist ++ [.busBegin, .busSetAddr s.par.devAddr, .busWrite s.commandBytes] }

theorem State.commandBytes_eq (s : State) :
    s.commandBytes = if s.selecting then [0x01, 0x01] else [0x02, 0x10, s.tpd.reqPage] := by
  unfold State.commandBytes
  split <;> rfl

/-- The command of an attempt, run (R131). -/
theorem exec_command (s : State) : exec s.command s = .next (State.sendCommand
    { s with tpd.page := if s.selecting then s.tpd.page else s.tpd.reqPage } s.commandImage) := by
  unfold State.command State.commandImage
  split <;> rfl

section
variable {s : State}

theorem step_build (h : s.transacting .build) (returns : false ∉ s.env.returns.take 2) :
    step s = .next s.commandSent := by
  obtain ⟨busy, tst, free, -, -⟩ := id h
  rw [h.step_eq, State.run_build busy tst, exec_command,
    State.sendCommand_returned (by exact free) _ (by exact returns)]
  rfl

theorem step_write_ok {ws : List WriteAnswer} (h : s.transacting .write) (answer : s.env.writes = .ok :: ws) :
    step s = .next { s with
      tpd.tst := .settle, env.writes := ws, env.hist := s.env.hist ++ [.writeAnswer .ok] } := by
  obtain ⟨busy, tst, free, -, -⟩ := id h
  rw [h.step_eq, State.run_write busy tst, State.unlessStuck_returned _ _ free, State.moveWrite, answer]
  rfl

/-- A failed write, up to its `BusEnd` (R221). -/
theorem step_write_err {ws : List WriteAnswer} (h : s.transacting .write) (answer : s.env.writes = .err :: ws) :
    step s = .next (State.perform
      { s with env.writes := ws, env.hist := s.env.hist ++ [.writeAnswer .err] } .busEnd
      fun t => t.raiseAttempt .busWrite) := by
  obtain ⟨busy, tst, free, -, -⟩ := id h
  rw [h.step_eq, State.run_write busy tst, State.unlessStuck_returned _ _ free, State.moveWrite, answer]
  rfl

theorem step_settle (h : s.transacting .settle) : step s = .next
    (s.perform (.busDelay s.settleMs) fun t => State.record { t with tpd.tst := .read } [.busRead 11]) := by
  obtain ⟨busy, tst, free, -, -⟩ := id h
  rw [h.step_eq, State.run_settle busy tst, State.unlessStuck_returned _ _ free, State.moveSettle]

theorem step_read_bytes {f : Frame} {rs : List ReadAnswer} (h : s.transacting .read)
    (answer : s.env.reads = .bytes f :: rs) :
    step s = .next (State.perform
      { s with env.reads := rs, env.hist := s.env.hist ++ [.readAnswer (.bytes f)] } .busEnd
      fun t => { t with tpd.xbuf := f, tpd.tst := .check }) := by
  obtain ⟨busy, tst, free, -, -⟩ := id h
  rw [h.step_eq, State.run_read busy tst, State.unlessStuck_returned _ _ free, State.moveRead, answer]
  rfl

theorem step_read_err {rs : List ReadAnswer} (h : s.transacting .read) (answer : s.env.reads = .err :: rs) :
    step s = .next (State.perform
      { s with env.reads := rs, env.hist := s.env.hist ++ [.readAnswer .err] } .busEnd fun t =>
        State.raiseAttempt { t with env.draws := t.env.draws + 11, tpd.xbuf := drawFrame t.env.draws } .busRead) := by
  obtain ⟨busy, tst, free, -, -⟩ := id h
  rw [h.step_eq, State.run_read busy tst, State.unlessStuck_returned _ _ free, State.moveRead, answer]
  rfl

theorem step_check (h : s.transacting .check) : step s = exec (.resp s.tpd.xbuf) s := by
  obtain ⟨busy, tst, -⟩ := id h
  rw [h.step_eq, State.run_check busy tst]

theorem step_gap (h : s.transacting .gap) : step s = .next
    (s.perform (.busDelay s.gapMs) fun t => { t with tpd.tryNo := t.tpd.tryNo + 1, tpd.tst := .build }) := by
  obtain ⟨busy, tst, free, -, -⟩ := id h
  rw [h.step_eq, State.run_gap busy tst, State.unlessStuck_returned _ _ free, State.moveGap]

end

/-- Settles O27. -/
theorem retryGap : Obligations.RetryGap := by
  unfold Obligations.RetryGap
  intro s h returns
  obtain ⟨-, -, free, -, -⟩ := id h
  rw [step_gap h, State.perform_returned free _ _ returns]
  rfl

/-- Settles O24: behind the answer and the `BusEnd` the attempt fails. -/
theorem busWriteErrorEndsTheAttempt : Obligations.BusWriteErrorEndsTheAttempt := by
  unfold Obligations.BusWriteErrorEndsTheAttempt
  intro s ws h answer returns
  obtain ⟨-, -, free, -, -⟩ := id h
  have ended := State.perform_returned
    (s := { s with env.writes := ws, env.hist := s.env.hist ++ [.writeAnswer .err] }) free .busEnd
    (fun t => t.raiseAttempt .busWrite) returns
  rw [List.append_assoc] at ended
  obtain ⟨failed, xbuf, env⟩ := State.raiseAttempt_attemptFailed { s with
    env.writes := ws, env.returns := s.env.returns.tail,
    env.hist := s.env.hist ++ [.writeAnswer .err, .busEnd] } .busWrite
  exact ⟨_, (step_write_err h answer).trans (congrArg _ ended), failed, xbuf, env⟩

/-- Settles O25: as a failed write, behind eleven free bytes in `XBUF`. -/
theorem busReadErrorEndsTheAttempt : Obligations.BusReadErrorEndsTheAttempt := by
  unfold Obligations.BusReadErrorEndsTheAttempt
  intro s rs h answer returns
  obtain ⟨-, -, free, -, -⟩ := id h
  have ended := State.perform_returned
    (s := { s with env.reads := rs, env.hist := s.env.hist ++ [.readAnswer .err] }) free .busEnd
    (fun t => State.raiseAttempt { t with env.draws := t.env.draws + 11, tpd.xbuf := drawFrame t.env.draws } .busRead)
    returns
  rw [List.append_assoc] at ended
  obtain ⟨failed, xbuf, env⟩ := State.raiseAttempt_attemptFailed { s with
    tpd.xbuf := drawFrame s.env.draws, env.reads := rs, env.returns := s.env.returns.tail,
    env.hist := s.env.hist ++ [.readAnswer .err, .busEnd], env.draws := s.env.draws + 11 } .busRead
  exact ⟨_, (step_read_err h answer).trans (congrArg _ ended), failed, xbuf, env⟩

/-! ## Runs (R39) -/

section
variable {s t : State}

/-- A run's first step. -/
theorem run_succ (n : Nat) (next : step s = .next t) :
    Host.Core.run Sys2Proof.core (n + 1) s = Host.Core.run Sys2Proof.core n t := by
  have coreNext : Sys2Proof.core.step s = .next t := next
  simp only [Host.Core.run, coreNext]

/-- A state that steps to itself is kept however many steps pass. -/
theorem run_fixed (fixed : step s = .next s) (n : Nat) : Host.Core.run Sys2Proof.core n s = .next s := by
  induction n with
  | zero => rfl
  | succ n ih => rw [run_succ n fixed, ih]

end

/-! ## A whole attempt whose write and read succeed (R131) -/

/-- The state behind the four moves of such an attempt, its response in `XBUF` to be checked. -/
def State.answered (s : State) (f : Frame) (ws : List WriteAnswer) (rs : List ReadAnswer) : State := { s with
  tpd.page := if s.selecting then s.tpd.page else s.tpd.reqPage, tpd.xbuf := f,
  tpd.attempts := s.tpd.attempts + 1, tpd.tst := .check,
  env.writes := ws, env.reads := rs, env.returns := s.env.returns.drop 4,
  env.hist := s.env.hist ++ [.busBegin, .busSetAddr s.par.devAddr, .busWrite s.commandBytes, .writeAnswer .ok,
    .busDelay s.settleMs, .busRead 11, .readAnswer (.bytes f), .busEnd] }

/-- The state behind the moves of an attempt up to the read's issue. -/
def State.readIssued (s : State) (ws : List WriteAnswer) : State := { s.commandSent with
  tpd.tst := .read, env.writes := ws, env.returns := s.env.returns.drop 3,
  env.hist := s.env.hist ++ [.busBegin, .busSetAddr s.par.devAddr, .busWrite s.commandBytes, .writeAnswer .ok,
    .busDelay s.settleMs, .busRead 11] }

theorem head?_drop_ne_false {returns : List Bool} {n k : Nat} (return_all : false ∉ returns.take k) (inside : n < k) :
    (returns.drop n).head? ≠ some false := by
  intro hangs
  rw [List.head?_drop] at hangs
  exact return_all (List.mem_of_getElem? (i := n) (by rwa [List.getElem?_take_of_lt inside]))

section
variable {s : State} {ws : List WriteAnswer} {rs : List ReadAnswer}

theorem run_to_readIssued (n : Nat) (h : s.transacting .build) (write : s.env.writes = .ok :: ws)
    (returns : false ∉ s.env.returns.take 3) :
    Host.Core.run Sys2Proof.core (n + 3) s = Host.Core.run Sys2Proof.core n (s.readIssued ws) ∧
      (s.readIssued ws).transacting .read := by
  obtain ⟨busy, -, free, released, script⟩ := id h
  have returnsFirst : false ∉ s.env.returns.take 2 := fun inside =>
    returns ((List.take_subset_take_left _ (by omega)) inside)
  have sent : s.commandSent.transacting .write := ⟨busy, rfl, free, released, script⟩
  have settling : State.transacting { s.commandSent with
      tpd.tst := .settle, env.writes := ws, env.hist := s.commandSent.env.hist ++ [.writeAnswer .ok] } .settle :=
    ⟨busy, rfl, free, released, script⟩
  have third : s.commandSent.env.returns.head? ≠ some false := head?_drop_ne_false returns (by omega)
  refine ⟨?_, busy, rfl, free, released, script⟩
  rw [run_succ _ (step_build h returnsFirst), run_succ _ (step_write_ok sent write), run_succ _ (step_settle settling),
    State.perform_returned (by exact free) _ _ (by exact third)]
  refine congrArg _ ?_
  simp only [State.readIssued, State.commandSent, State.record, List.append_assoc, List.tail_drop]
  rfl

theorem run_to_answered {f : Frame} (n : Nat) (h : s.transacting .build) (write : s.env.writes = .ok :: ws)
    (read : s.env.reads = .bytes f :: rs) (returns : false ∉ s.env.returns.take 4) :
    Host.Core.run Sys2Proof.core (n + 4) s = Host.Core.run Sys2Proof.core n (s.answered f ws rs) ∧
      (s.answered f ws rs).transacting .check := by
  obtain ⟨busy, -, free, released, script⟩ := id h
  have returnsFirst : false ∉ s.env.returns.take 3 := fun inside =>
    returns ((List.take_subset_take_left _ (by omega)) inside)
  obtain ⟨issued, reading⟩ := run_to_readIssued (n + 1) h write returnsFirst
  have fourth : (s.readIssued ws).env.returns.head? ≠ some false := head?_drop_ne_false returns (by omega)
  refine ⟨?_, busy, rfl, free, released, script⟩
  rw [issued, run_succ _ (step_read_bytes reading (by exact read)),
    State.perform_returned (by exact free) _ _ (by exact fourth)]
  refine congrArg _ ?_
  simp only [State.answered, State.readIssued, State.commandSent, List.append_assoc, List.tail_drop]
  rfl

end

/-- Settles O26. -/
theorem attemptBusSequence : Obligations.AttemptBusSequence := by
  unfold Obligations.AttemptBusSequence
  intro s f ws rs h write read returns
  obtain ⟨runs, checking⟩ := run_to_answered 0 h write read returns
  refine ⟨s.answered f ws rs, runs, checking, rfl, rfl, rfl, rfl, rfl, ?_⟩
  rw [← State.commandBytes_eq]
  rfl

/-! ## Primitives that never return (R261) -/

/-- A hung block steps to itself. -/
theorem step_hung {s : State} (h : s.hung) : step s = .next s := by
  obtain ⟨busy, stuck, at', released, script⟩ := h
  rw [step_of_nil released script]
  obtain tst | tst | tst | tst := at'
  · rw [State.run_write busy tst, State.unlessStuck_stuck _ _ stuck]
  · rw [State.run_settle busy tst, State.unlessStuck_stuck _ _ stuck]
  · rw [State.run_read busy tst, State.unlessStuck_stuck _ _ stuck]
  · rw [State.run_gap busy tst, State.unlessStuck_stuck _ _ stuck]

/-- While no answer comes to a write, or to a read, the block waits. -/
theorem step_write_unanswered {s : State} (h : s.transacting .write) (none : s.env.writes = []) :
    step s = .next s := by
  obtain ⟨busy, tst, free, -, -⟩ := id h
  rw [h.step_eq, State.run_write busy tst, State.unlessStuck_returned _ _ free, State.moveWrite, none]

theorem step_read_unanswered {s : State} (h : s.transacting .read) (none : s.env.reads = []) :
    step s = .next s := by
  obtain ⟨busy, tst, free, -, -⟩ := id h
  rw [h.step_eq, State.run_read busy tst, State.unlessStuck_returned _ _ free, State.moveRead, none]

/-- A step that issues a primitive which never returns hangs behind its event. -/
theorem hangsBehind_of_perform {s u : State} {k : State → State} {es : List BusEvent} {e : BusEvent} {d : Tst}
    (waits : d = .write ∨ d = .settle ∨ d = .read ∨ d = .gap) (h : s.transacting d)
    (next : step s = .next (u.perform e k)) (tst : u.tpd.tst = d) (free : u.tpd.stuck = false)
    (hangs : u.env.returns.head? = some false) (hist : u.env.hist ++ [e] = s.env.hist ++ es)
    (same : u.hif = s.hif ∧ u.tb = s.tb ∧ u.ndd = s.ndd ∧ u.par = s.par ∧ u.env.rst = s.env.rst ∧
      u.env.script = s.env.script) : s.hangsBehind es := by
  obtain ⟨busy, -, -, released, script⟩ := h
  obtain ⟨hif, tb, ndd, par, rst, rest⟩ := same
  rw [State.perform_hung free e k hangs] at next
  refine ⟨_, next, ⟨?_, rfl, ?_, rst.trans released, rest.trans script⟩, hist, hif, tb, ndd, par⟩
  · exact (congrArg HostRegs.busy hif).trans busy
  · change u.tpd.tst = _ ∨ u.tpd.tst = _ ∨ u.tpd.tst = _ ∨ u.tpd.tst = _
    rw [tst]
    exact waits

/-- The command of an attempt hangs in one of its two primitives before the write. -/
theorem hangsBehind_of_build {s : State} (h : s.transacting .build) :
    (s.env.returns.head? = some false → s.hangsBehind [.busBegin]) ∧
      ∀ rest, s.env.returns = true :: false :: rest → s.hangsBehind [.busBegin, .busSetAddr s.par.devAddr] := by
  obtain ⟨busy, tst, free, released, script⟩ := id h
  have sends := (h.step_eq.trans (State.run_build busy tst)).trans (exec_command s)
  obtain ⟨first, sent⟩ | ⟨first, second, sent⟩ | ⟨first, second, -⟩ := State.sendCommand_cases
    { s with tpd.page := if s.selecting then s.tpd.page else s.tpd.reqPage } s.commandImage free
  · refine ⟨fun _ => ⟨_, sends.trans (congrArg _ sent), ⟨busy, rfl, .inl rfl, released, script⟩, rfl, rfl, rfl, rfl,
      rfl⟩, fun rest list => ?_⟩
    simp [list] at first
  · refine ⟨fun hangs => absurd hangs first, fun rest _ => ⟨_, sends.trans (congrArg _ sent),
      ⟨busy, rfl, .inl rfl, released, script⟩, List.append_assoc .., rfl, rfl, rfl, rfl⟩⟩
  · refine ⟨fun hangs => absurd hangs first, fun rest list => ?_⟩
    simp [list] at second

/-- Settles O28: the hung block and the two waits step to themselves, and each primitive that never returns is the last
event of its step. -/
theorem stuckPrimitiveKeepsBusy : Obligations.StuckPrimitiveKeepsBusy := by
  unfold Obligations.StuckPrimitiveKeepsBusy
  intro s
  refine ⟨fun n waits => ?fixed, fun h => (hangsBehind_of_build h).1, fun rest h => (hangsBehind_of_build h).2 rest,
    fun h hangs => ?settle, fun h hangs => ?gap, fun ws h answer hangs => ?write, fun a rs h answer hangs => ?read⟩
  case fixed =>
    obtain h | ⟨h, none⟩ | ⟨h, none⟩ := waits
    · exact ⟨run_fixed (step_hung h) n, h.1⟩
    · exact ⟨run_fixed (step_write_unanswered h none) n, h.1⟩
    · exact ⟨run_fixed (step_read_unanswered h none) n, h.1⟩
  all_goals obtain ⟨-, tst, free, -, -⟩ := id h
  case settle =>
    exact hangsBehind_of_perform (by simp) h (step_settle h) tst free hangs rfl ⟨rfl, rfl, rfl, rfl, rfl, rfl⟩
  case gap =>
    exact hangsBehind_of_perform (by simp) h (step_gap h) tst free hangs rfl ⟨rfl, rfl, rfl, rfl, rfl, rfl⟩
  case write =>
    exact hangsBehind_of_perform (by simp) h (step_write_err h answer) tst free hangs (List.append_assoc ..)
      ⟨rfl, rfl, rfl, rfl, rfl, rfl⟩
  case read =>
    cases a with
    | err =>
      exact hangsBehind_of_perform (by simp) h (step_read_err h answer) tst free hangs (List.append_assoc ..)
        ⟨rfl, rfl, rfl, rfl, rfl, rfl⟩
    | bytes f =>
      exact hangsBehind_of_perform (by simp) h (step_read_bytes h answer) tst free hangs (List.append_assoc ..)
        ⟨rfl, rfl, rfl, rfl, rfl, rfl⟩

end Sys2Proof.Machine
end

section
/-! What a step can do, said once: the host's accesses, the moves of the decoder unit and the moves of the transactor,
each with the facts about the state it is made in. The step invariants are proved by cases on them. -/

namespace Sys2Proof.Machine

/-! ## The decoder unit (R176 to R203) -/

/-- The moves of the decoder unit. -/
inductive DecoderMove (s : State) : State → Prop
  | stays (dst : s.ndd.dst = .idle) : DecoderMove s s
  | endOfBuffer (dst : s.ndd.dst = .readType) (atEnd : s.ndd.ce.toNat ≤ s.ndd.idx.toNat) :
      DecoderMove s (s.raiseDecode .endOfBuffer)
  | nullType (dst : s.ndd.dst = .readType) (below : s.ndd.idx.toNat < s.ndd.ce.toNat) :
      DecoderMove s (s.readType Config.tlvNull .readType)
  | type (t : Byte) (dst : s.ndd.dst = .readType) (below : s.ndd.idx.toNat < s.ndd.ce.toNat)
      (notNull : t ≠ Config.tlvNull) : DecoderMove s (s.readType t .readLength)
  | length (n : Nat) (l : Half) (dst : s.ndd.dst = .readLength) (fits : s.ndd.idx.toNat + n ≤ s.ndd.ce.toNat) :
      DecoderMove s (s.readLength n l)
  | lengthCut (dst : s.ndd.dst = .readLength) : DecoderMove s s.lengthCut
  | message (dst : s.ndd.dst = .dispatch) : DecoderMove s { s with ndd.dst := .record, ndd.inBody := false }
  | terminator (dst : s.ndd.dst = .dispatch) : DecoderMove s (s.raiseDecode .terminator)
  | value (dst : s.ndd.dst = .dispatch) :
      DecoderMove s { s.skip (s.ndd.idx.toNat + s.ndd.tlvL.toNat) with ndd.dst := .readType }
  | nullDispatched (dst : s.ndd.dst = .dispatch) (null : s.ndd.tlvT = Config.tlvNull) :
      DecoderMove s (s.readType Config.tlvNull .readType)
  | header (n : Nat) (h tl : Byte) (p : BitVec 32) (i : Byte) (dst : s.ndd.dst = .record)
      (fits : s.ndd.idx.toNat + n ≤ s.ndd.ce.toNat) : DecoderMove s (s.readHeader n h tl p i)
  | recordCut (dst : s.ndd.dst = .record) : DecoderMove s s.exhaust
  | messageEnd (dst : s.ndd.dst = .record) : DecoderMove s { s with ndd.dst := .readType }
  | passed (dst : s.ndd.dst = .record) (inBody : s.ndd.inBody = true) : DecoderMove s s.passRecord
  | noPayload (dst : s.ndd.dst = .record) (inBody : s.ndd.inBody = true) : DecoderMove s s.pastId.rejectRecord
  | languageCut (dst : s.ndd.dst = .record) : DecoderMove s s.pastId.exhaust
  | overrun (g : Byte) (dst : s.ndd.dst = .record) (inBody : s.ndd.inBody = true) :
      DecoderMove s (s.behindLanguage g).rejectRecord
  | textCut (g : Byte) (dst : s.ndd.dst = .record) : DecoderMove s (s.behindLanguage g).exhaust
  | found (g : Byte) (start len : Nat) (dst : s.ndd.dst = .record) (behind : s.pastId.ndd.idx.toNat ≤ start)
      (fits : start + len ≤ s.ndd.ce.toNat) : DecoderMove s ((s.behindLanguage g).raiseFound start len)
  | completes (dst : s.ndd.dst = .done) : DecoderMove s s.complete

section
variable {s t : State}

/-- A window that is read is an element decoded and run, or refused. -/
theorem State.fetchWindow_next {f : Format} {n : Nat} (next : (s.fetchWindow f n).run = .next t) :
    ∃ bs, s.window n = some bs ∧
      ((∃ i, decode f bs = .ok i ∧ exec i s = .next t) ∨
        ((∃ e, decode f bs = .refused e) ∧ refusedElement f s = .next t)) := by
  cases window : s.window n with
  | none => simp [State.fetchWindow, window] at next
  | some bs =>
    rw [State.fetchWindow_some window] at next
    refine ⟨bs, rfl, ?_⟩
    cases decoded : decode f bs with
    | ok i => exact .inl ⟨i, rfl, by rwa [Fetched.run_element s decoded] at next⟩
    | refused e => exact .inr ⟨⟨e, rfl⟩, by rwa [Fetched.run_refused s decoded] at next⟩

theorem decoderMove_of_readType (dst : s.ndd.dst = .readType) (next : s.fetchDecoder.run = .next t) :
    DecoderMove s t := by
  by_cases below : s.ndd.idx.toNat < s.ndd.ce.toNat
  · rw [State.fetchDecoder_readType dst below] at next
    obtain ⟨bs, window, ⟨i, decoded, run⟩ | ⟨⟨e, refused⟩, -⟩⟩ := State.fetchWindow_next next
    · obtain ⟨b, rest, -, rfl⟩ := decode_tlv_ok decoded
      have reading : s.ndd.dst ≠ .dispatch := by simp [dst]
      obtain ⟨-, e⟩ | ⟨-, e⟩ | ⟨-, e⟩ | ⟨notNull, -, -, e⟩ := decodeTlvType_cases b
      · rw [e, exec_tlvNull] at run
        cases run
        exact .nullType dst below
      · rw [e, exec_tlvNdef_read s reading] at run
        cases run
        exact .type _ dst below (by decide)
      · rw [e, exec_tlvTerminator_read s reading] at run
        cases run
        exact .type _ dst below (by decide)
      · rw [e, exec_tlvOpaque_read s b reading] at run
        cases run
        exact .type _ dst below notNull
    · have length := s.window_length 1 bs window
      match bs with
      | [] => simp only [List.length_nil] at length; omega
      | b :: rest => cases refused
  · rw [State.fetchDecoder_endOfBuffer dst (by omega)] at next
    cases next
    exact .endOfBuffer dst (by omega)

theorem decoderMove_of_readLength (dst : s.ndd.dst = .readLength) (next : s.fetchDecoder.run = .next t) :
    DecoderMove s t := by
  rw [State.fetchDecoder_readLength dst] at next
  obtain ⟨bs, window, ⟨i, decoded, run⟩ | ⟨-, run⟩⟩ := State.fetchWindow_next next
  · have length := s.window_length 3 bs window
    obtain ⟨b, rest, -, rfl, rfl⟩ | ⟨hi, lo, rest, rfl, rfl⟩ := decode_tlvLen_ok decoded <;> cases run <;>
      simp only [List.length_cons] at length
    · exact .length 1 _ dst (by omega)
    · exact .length 3 _ dst (by omega)
  · cases run
    exact .lengthCut dst

theorem decoderMove_of_dispatch (dst : s.ndd.dst = .dispatch) (next : s.fetchDecoder.run = .next t) :
    DecoderMove s t := by
  rw [State.run_dispatch dst] at next
  obtain ⟨null, e⟩ | ⟨-, e⟩ | ⟨-, e⟩ | ⟨-, -, -, e⟩ := decodeTlvType_cases s.ndd.tlvT
  · rw [e, exec_tlvNull] at next
    cases next
    exact .nullDispatched dst null
  · rw [e, exec_tlvNdef_dispatched s dst] at next
    cases next
    exact .message dst
  · rw [e, exec_tlvTerminator_dispatched s dst] at next
    cases next
    exact .terminator dst
  · rw [e, exec_tlvOpaque_dispatched s _ dst] at next
    cases next
    exact .value dst

theorem decoderMove_of_header (dst : s.ndd.dst = .record) (outside : s.ndd.inBody = false)
    (next : s.fetchDecoder.run = .next t) : DecoderMove s t := by
  by_cases begins : s.ndd.idx.toNat < s.ndd.msgend.toNat ∧ s.ndd.idx.toNat < s.ndd.ce.toNat
  · obtain ⟨inMessage, below⟩ := begins
    rw [State.fetchDecoder_header dst outside inMessage below] at next
    obtain ⟨bs, window, ⟨i, decoded, run⟩ | ⟨-, run⟩⟩ := State.fetchWindow_next next
    · have length := s.window_length 7 bs window
      obtain ⟨hdr, tl, p0, rest, ⟨-, -, rfl, rfl⟩ | ⟨_, -, -, rfl, rfl⟩ | ⟨_, _, _, -, -, rfl, rfl⟩ |
        ⟨_, _, _, _, -, -, rfl, rfl⟩⟩ := decode_ndefRec_ok decoded <;> cases run <;>
        simp only [List.length_cons] at length <;> exact .header _ _ _ _ _ dst (by omega)
    · cases run
      exact .recordCut dst
  · rw [State.fetchDecoder_messageEnd dst outside (by omega)] at next
    cases next
    exact .messageEnd dst

/-- What a Text record comes to (R198, R199, R203). -/
theorem decoderMove_of_recText (dst : s.ndd.dst = .record) (inBody : s.ndd.inBody = true)
    (next : execRecText s = .next t) : DecoderMove s t := by
  by_cases none : s.ndd.paylen = 0
  · rw [execRecText_noPayload none] at next
    cases next
    exact .noPayload dst inBody
  rw [execRecText_eq, if_neg none] at next
  obtain ⟨-, cut⟩ | ⟨fits, ⟨bs, -, taken⟩ | ⟨-, noValue⟩⟩ := s.pastId.take_cases 1
  · rw [cut] at next
    cases next
    exact .languageCut dst
  · rw [taken] at next
    replace next : (s.behindLanguage (BitVec.ofNat 8 (beNat bs))).textBody = t := Host.Outcome.next.inj next
    have behind : (s.behindLanguage (BitVec.ofNat 8 (beNat bs))).ndd.idx.toNat = s.pastId.ndd.idx.toNat + 1 :=
      ofNat_toNat_of_le fits
    subst next
    obtain ⟨-, rejected⟩ | ⟨-, -, cut⟩ | ⟨-, whole, found⟩ :=
      (s.behindLanguage (BitVec.ofNat 8 (beNat bs))).textBody_cases
    · rw [rejected]
      exact .overrun _ dst inBody
    · rw [cut]
      exact .textCut _ dst
    · rw [found]
      exact .found _ _ _ dst (by omega) whole
  · rw [noValue] at next
    cases next

theorem decoderMove_of_body (dst : s.ndd.dst = .record) (inBody : s.ndd.inBody = true)
    (next : s.fetchDecoder.run = .next t) : DecoderMove s t := by
  rw [State.fetchDecoder_body dst inBody] at next
  cases window : s.window 1 with
  | none => simp [State.fetchClass, window] at next
  | some bs =>
    rw [State.fetchClass_some window] at next
    cases decoded : decode .recClass (s.ndd.hdr :: s.ndd.typelen :: bs) with
    | ok i =>
      rw [Fetched.run_element s decoded] at next
      obtain rfl | rfl := decode_recClass_ok decoded
      · exact decoderMove_of_recText dst inBody next
      · cases next
        exact .passed dst inBody
    | refused e =>
      rw [Fetched.run_refused s decoded] at next
      cases next
      exact .recordCut dst

theorem decoderMove_of_run (next : s.fetchDecoder.run = .next t) : DecoderMove s t := by
  cases dst : s.ndd.dst with
  | idle =>
    rw [State.fetchDecoder_idle dst] at next
    cases next
    exact .stays dst
  | readType => exact decoderMove_of_readType dst next
  | readLength => exact decoderMove_of_readLength dst next
  | dispatch => exact decoderMove_of_dispatch dst next
  | record =>
    cases inBody : s.ndd.inBody with
    | true => exact decoderMove_of_body dst inBody next
    | false => exact decoderMove_of_header dst inBody next
  | done =>
    rw [State.fetchDecoder_done dst] at next
    cases next
    exact .completes dst

end

/-! ## The transactor (R131 to R136, R160, R261) -/

/-- The moves of the transactor. An environment `e` behind a move differs from the one before in the answers taken, the
primitives' returns and the draws; its history is the one before with the move's events added. -/
inductive TransactorMove (s : State) : State → Prop
  | waits : TransactorMove s s
  | command (page : Byte) (image : Frame) (stuck : Bool) (e : Env) (es : List BusEvent) (tst : s.tpd.tst = .build)
      (rst : e.rst = s.env.rst) (hist : e.hist = s.env.hist ++ .busBegin :: es) (held : .busEnd ∉ es) :
      TransactorMove s { s with
        tpd.page := page, tpd.xbuf := image, tpd.attempts := s.tpd.attempts + 1, tpd.tst := .write,
        tpd.stuck := stuck, env := e }
  | written (e : Env) (tst : s.tpd.tst = .write) (free : s.tpd.stuck = false) (rst : e.rst = s.env.rst)
      (hist : e.hist = s.env.hist ++ [.writeAnswer .ok]) :
      TransactorMove s { s with tpd.tst := .settle, env := e }
  | settled (ms : Nat) (e : Env) (tst : s.tpd.tst = .settle) (free : s.tpd.stuck = false) (rst : e.rst = s.env.rst)
      (hist : e.hist = s.env.hist ++ [.busDelay ms, .busRead 11]) :
      TransactorMove s { s with tpd.tst := .read, env := e }
  | response (f : Frame) (e : Env) (es : List BusEvent) (tst : s.tpd.tst = .read) (free : s.tpd.stuck = false)
      (rst : e.rst = s.env.rst) (hist : e.hist = s.env.hist ++ es) :
      TransactorMove s { s with tpd.xbuf := f, tpd.tst := .check, env := e }
  | again (e : Env) (es : List BusEvent) (tst : s.tpd.tst = .gap) (free : s.tpd.stuck = false)
      (rst : e.rst = s.env.rst) (hist : e.hist = s.env.hist ++ es) :
      TransactorMove s { s with tpd.tryNo := s.tpd.tryNo + 1, tpd.tst := .build, env := e }
  | hangs (e : Env) (es : List BusEvent)
      (tst : s.tpd.tst = .write ∨ s.tpd.tst = .settle ∨ s.tpd.tst = .read ∨ s.tpd.tst = .gap)
      (free : s.tpd.stuck = false) (rst : e.rst = s.env.rst) (hist : e.hist = s.env.hist ++ es)
      (bus : .busEnd ∉ es ∨ es.getLast? = some .busEnd) :
      TransactorMove s { s with tpd.stuck := true, env := e }
  | fails (c : Cause) (x : Frame) (e : Env) (es : List BusEvent)
      (tst : s.tpd.tst = .write ∨ s.tpd.tst = .read ∨ s.tpd.tst = .check)
      (free : s.tpd.tst = .check ∨ s.tpd.stuck = false) (rst : e.rst = s.env.rst) (hist : e.hist = s.env.hist ++ es) :
      TransactorMove s (State.raiseAttempt { s with tpd.xbuf := x, env := e } c)
  | succeeds (r : Tpd) (tst : s.tpd.tst = .check)
      (counts : r.attempts = s.tpd.attempts ∧ r.tryNo = s.tpd.tryNo ∧ r.stuck = s.tpd.stuck) :
      TransactorMove s (State.complete { s with tpd := r, hif.res := .ok, hif.cause := .none })
  | loopEnds (f : Frame) (c : Cause) (tst : s.tpd.tst = .check) (looping : s.looping = true) :
      TransactorMove s ((s.pageAppended f).endWith .ok c)
  | nextPage (f : Frame) (tst : s.tpd.tst = .check) (looping : s.looping = true)
      (room : (s.pageAppended f).tb.len.toNat + 7 ≤ s.par.cap.toNat) :
      TransactorMove s ((s.pageAppended f).beginTries (s.tpd.reqPage + 1))

section
variable {s t : State}

theorem transactorMove_command (tst : s.tpd.tst = .build) (next : exec s.command s = .next t) :
    TransactorMove s t := by
  rw [exec_command] at next
  obtain ⟨-, sent⟩ | ⟨-, -, sent⟩ | ⟨-, -, sent⟩ := State.sendCommand_cases
    { s with tpd.page := if s.selecting then s.tpd.page else s.tpd.reqPage, tpd.stuck := false } s.commandImage rfl <;>
    cases (Host.Outcome.next.inj next).symm.trans sent
  · exact .command _ _ _ _ [] tst rfl rfl (by simp)
  · exact .command _ _ _ _ [.busSetAddr s.par.devAddr] tst rfl (List.append_assoc ..) (by simp)
  · exact .command _ _ _ _ [.busSetAddr s.par.devAddr, .busWrite (sentBytes s.commandImage)] tst rfl
      (by simp) (by simp)

theorem transactorMove_write (tst : s.tpd.tst = .write) (free : s.tpd.stuck = false) :
    TransactorMove s s.moveWrite := by
  unfold State.moveWrite
  split
  · exact .waits
  · exact .written _ tst free rfl rfl
  · rename_i rest _
    obtain ⟨-, performed⟩ | ⟨-, performed⟩ := State.perform_cases
      (State.record { s with env.writes := rest } [.writeAnswer .err]) .busEnd
      (fun t => t.raiseAttempt .busWrite) free <;> rw [performed]
    · exact .fails .busWrite s.tpd.xbuf _ [.writeAnswer .err, .busEnd] (.inl tst) (.inr free) rfl (List.append_assoc ..)
    · exact .hangs _ [.writeAnswer .err, .busEnd] (.inl tst) free rfl (List.append_assoc ..) (.inr rfl)

theorem transactorMove_settle (tst : s.tpd.tst = .settle) (free : s.tpd.stuck = false) :
    TransactorMove s s.moveSettle := by
  unfold State.moveSettle
  obtain ⟨-, performed⟩ | ⟨-, performed⟩ := s.perform_cases (.busDelay s.settleMs)
    (fun t => State.record { t with tpd.tst := .read } [.busRead 11]) free <;> rw [performed]
  · exact .settled s.settleMs _ tst free rfl (List.append_assoc ..)
  · exact .hangs _ [.busDelay s.settleMs] (.inr (.inl tst)) free rfl rfl (.inl (by simp))

theorem transactorMove_read (tst : s.tpd.tst = .read) (free : s.tpd.stuck = false) :
    TransactorMove s s.moveRead := by
  unfold State.moveRead
  split
  · exact .waits
  · rename_i f rest _
    obtain ⟨-, performed⟩ | ⟨-, performed⟩ := State.perform_cases
      (State.record { s with env.reads := rest } [.readAnswer (.bytes f)]) .busEnd
      (fun t => { t with tpd.xbuf := f, tpd.tst := .check }) free <;> rw [performed]
    · exact .response f _ [.readAnswer (.bytes f), .busEnd] tst free rfl (List.append_assoc ..)
    · exact .hangs _ [.readAnswer (.bytes f), .busEnd] (.inr (.inr (.inl tst))) free rfl (List.append_assoc ..)
        (.inr rfl)
  · rename_i rest _
    obtain ⟨-, performed⟩ | ⟨-, performed⟩ := State.perform_cases
      (State.record { s with env.reads := rest } [.readAnswer .err]) .busEnd
      (fun t =>
        State.raiseAttempt { t with env.draws := t.env.draws + 11, tpd.xbuf := drawFrame t.env.draws } .busRead)
      free <;> rw [performed]
    · exact .fails .busRead _ _ [.readAnswer .err, .busEnd] (.inr (.inl tst)) (.inr free) rfl (List.append_assoc ..)
    · exact .hangs _ [.readAnswer .err, .busEnd] (.inr (.inr (.inl tst))) free rfl (List.append_assoc ..) (.inr rfl)

theorem transactorMove_gap (tst : s.tpd.tst = .gap) (free : s.tpd.stuck = false) :
    TransactorMove s s.moveGap := by
  unfold State.moveGap
  obtain ⟨-, performed⟩ | ⟨-, performed⟩ := s.perform_cases (.busDelay s.gapMs)
    (fun t => { t with tpd.tryNo := t.tpd.tryNo + 1, tpd.tst := .build }) free <;> rw [performed]
  · exact .again _ [.busDelay s.gapMs] tst free rfl rfl
  · exact .hangs _ [.busDelay s.gapMs] (.inr (.inr (.inr tst))) free rfl rfl (.inl (by simp))

/-- What a validated response comes to (R98, R160). -/
theorem transactorMove_check (f : Frame) (tst : s.tpd.tst = .check) (next : exec (.resp f) s = .next t) :
    TransactorMove s t := by
  by_cases accepted : frameCause f s.ovh = .none
  · obtain ⟨-, found⟩ | ⟨-, -, found⟩ | ⟨status, long, -⟩ := frameCause_cases f s.ovh
    · simp [found] at accepted
    · simp [found] at accepted
    cases looping : s.looping with
    | true =>
      have reading := s.not_selecting_of_looping looping
      rw [exec_resp_loop s f looping status (by rwa [s.ovh_of_reading reading] at long)] at next
      cases next
      split
      · exact .loopEnds f _ tst looping
      · obtain ⟨-, ended⟩ | ⟨room, begun⟩ := (s.pageAppended f).beginPage_cases (s.tpd.reqPage + 1)
        · rw [ended]
          exact .loopEnds f _ tst looping
        · rw [begun]
          exact .nextPage f tst looping (by rwa [State.pageAppended_par] at room)
    | false =>
      cases selecting : s.selecting with
      | true =>
        rw [exec_resp_select s f selecting status (by rwa [s.ovh_of_selecting selecting] at long)] at next
        cases next
        exact .succeeds _ tst ⟨rfl, rfl, rfl⟩
      | false =>
        rw [exec_resp_read s f selecting looping status (by rwa [s.ovh_of_reading selecting] at long)] at next
        cases next
        exact .succeeds _ tst ⟨rfl, rfl, rfl⟩
  · rw [exec_resp_refused s f accepted] at next
    cases next
    exact .fails _ s.tpd.xbuf s.env [] (.inr (.inr tst)) (.inl tst) rfl (List.append_nil _).symm

/-- Stuck, the transactor waits. -/
theorem transactorMove_unlessStuck {k : State → State}
    (moves : s.tpd.stuck = false → TransactorMove s (k s)) : TransactorMove s (s.unlessStuck k) := by
  cases stuck : s.tpd.stuck with
  | true =>
    rw [State.unlessStuck_stuck _ _ stuck]
    exact .waits
  | false =>
    rw [State.unlessStuck_returned _ _ stuck]
    exact moves stuck

theorem transactorMove_of_run (busy : s.hif.busy = true) (running : s.tpd.tst ≠ .idle)
    (next : s.fetchEngine.run = .next t) : TransactorMove s t := by
  cases tst : s.tpd.tst with
  | idle => exact absurd tst running
  | build =>
    rw [State.run_build busy tst] at next
    exact transactorMove_command tst next
  | write =>
    rw [State.run_write busy tst] at next
    cases next
    exact transactorMove_unlessStuck (transactorMove_write tst)
  | settle =>
    rw [State.run_settle busy tst] at next
    cases next
    exact transactorMove_unlessStuck (transactorMove_settle tst)
  | read =>
    rw [State.run_read busy tst] at next
    cases next
    exact transactorMove_unlessStuck (transactorMove_read tst)
  | check =>
    rw [State.run_check busy tst] at next
    exact transactorMove_check _ tst next
  | gap =>
    rw [State.run_gap busy tst] at next
    cases next
    exact transactorMove_unlessStuck (transactorMove_gap tst)

end

/-! ## The host (R33, R41, R90, R112, R250) -/

/-- What a request on a free block can begin, or do at once. -/
inductive Accepted (s : State) : State → Prop
  | tries (op page : Byte) (single : op ∈ [0x01, 0x81, 0x10, 0x90]) :
      Accepted s ((s.accept op).beginTries page)
  | pages (op page : Byte) (loop : op ∈ [0x20, 0xA0]) : Accepted s ((s.accept op).tbClear.beginTries page)
  | decodes : Accepted s { s.accept 0x30 with
      ndd.ce := s.tb.len, ndd.idx := 0, ndd.txtOff := 0, ndd.txtLen := 0, hif.badtxt := false,
      ndd.dst := .readType, ndd.inBody := false }
  | clears : Accepted s ((s.accept 0x40).tbClear.endWith .ok .none)
  | appends (b : Byte) (room : s.tb.len.toNat < s.par.cap.toNat) :
      Accepted s (((s.accept 0x41).tbPush b).endWith .ok .none)
  | refuses (op : Byte) (c : Cause) : Accepted s ((s.accept op).endWith .refused c)

theorem accepted_of_exec {s t : State} {i : Instr} (hostReq : i.format = some .hostReq) (free : s.hif.busy = false)
    (next : exec i s = .next t) : Accepted s t := by
  cases i with
  | sel => cases (exec_sel_free free).symm.trans next; exact .tries _ _ (by simp)
  | selr => cases (exec_selr_free free).symm.trans next; exact .tries _ _ (by simp)
  | rdp p => cases (exec_rdp_free free p).symm.trans next; exact .tries _ _ (by simp)
  | rdpr p => cases (exec_rdpr_free free p).symm.trans next; exact .tries _ _ (by simp)
  | rdt => cases (exec_rdt_free free).symm.trans next; exact .pages _ _ (by simp)
  | rdtr => cases (exec_rdtr_free free).symm.trans next; exact .pages _ _ (by simp)
  | dec => cases (exec_dec_free free).symm.trans next; exact .decodes
  | tbclr => cases (exec_tbclr free).symm.trans next; exact .clears
  | tbapp b =>
    by_cases room : s.tb.len.toNat < s.par.cap.toNat
    · cases (exec_tbapp_room b free room).symm.trans next; exact .appends b room
    · cases (exec_tbapp_full b free (by omega)).symm.trans next; exact .refuses _ _
  | undefinedOp op => cases (exec_undefinedOp_free free op).symm.trans next; exact .refuses _ _
  | _ => cases hostReq

/-- What a step does with the host's next access. -/
inductive HostMove (s : State) : State → Prop
  | access (arg : Byte) (ovr : Bool) (tba : Half) (e : Env) (released : s.env.rst = false) (rst : e.rst = false)
      (hist : e.hist = s.env.hist) :
      HostMove s { s with hif.arg := arg, hif.ovr := ovr, hif.tba := tba, env := e }
  | accepted (arg : Byte) (rest : List HostEvent) (t : State) (released : s.env.rst = false)
      (free : s.hif.busy = false) (begun : Accepted { s with hif.arg := arg, env.script := rest } t) : HostMove s t
  | dropped (rest : List HostEvent) (held : s.env.rst = true) : HostMove s { s with env.script := rest }
  | resets (e : Env) (hist : e.hist = s.env.hist) : HostMove s (State.toReset { s with env := e })
  | releases (rest : List HostEvent) : HostMove s { s with env.rst := false, env.script := rest }

section
variable {s t : State}

theorem hostMove_of_read {a : Byte} {rest : List HostEvent} (released : s.env.rst = false)
    (next : State.hostRead { s with env.script := rest } a = .next t) : HostMove s t := by
  unfold State.hostRead at next
  split_ifs at next
  · unfold State.readTbd at next
    dsimp only at next
    split at next
    · cases next
      exact .access s.hif.arg s.hif.ovr _ _ released released rfl
    · split at next <;> cases next
      exact .access s.hif.arg s.hif.ovr _ _ released released rfl
  · cases next
    exact .access s.hif.arg s.hif.ovr s.hif.tba _ released released rfl
  · cases next
    exact .access s.hif.arg s.hif.ovr s.hif.tba _ released released rfl

theorem hostMove_of_write (a v : Byte) (rest : List HostEvent) (released : s.env.rst = false) :
    HostMove s (State.hostWrite { s with env.script := rest } a v) := by
  unfold State.hostWrite
  split_ifs <;> exact .access _ s.hif.ovr _ _ released released rfl

theorem hostMove_of_request {i : Instr} {arg : Byte} {rest : List HostEvent} (hostReq : i.format = some .hostReq)
    (released : s.env.rst = false)
    (next : exec i { s with hif.arg := arg, env.script := rest } = .next t) : HostMove s t := by
  cases busy : s.hif.busy with
  | true =>
    cases (exec_hostReq_busy hostReq (by exact busy)).symm.trans next
    exact .access arg true s.hif.tba _ released released rfl
  | false => exact .accepted arg rest t released busy (accepted_of_exec hostReq busy next)

theorem hostMove_of_issueRequest {w : BitVec 16} {rest : List HostEvent} (released : s.env.rst = false)
    (next : (State.issueRequest { s with env.script := rest } w).run = .next t) : HostMove s t := by
  unfold State.issueRequest at next
  split at next
  · exact hostMove_of_request (arg := lowByte w) (decodeHostReq_format _ _) released next
  · exact hostMove_of_request (arg := s.hif.arg) (decodeHostReq_format _ _) released next

theorem hostMove_of_rst (b : Bool) (rest : List HostEvent) :
    HostMove s (State.driveRst { s with env.script := rest } b) := by
  cases b with
  | true => exact .resets { s.env with rst := true, script := rest } rfl
  | false => exact .releases rest

theorem hostMove_of_reset (held : s.env.rst = true) (next : s.fetchInReset.run = .next t) : HostMove s t := by
  unfold State.fetchInReset at next
  split at next
  · cases next
    exact .dropped s.env.script held
  · cases next
    exact hostMove_of_rst _ _
  · cases next
    unfold State.readInReset
    split
    · exact .resets _ rfl
    · exact .resets _ rfl
  all_goals
    cases next
    exact .dropped _ held

end

/-! ## A step -/

/-- The moves of a step. The engine moves with the host's next access gone, or standing. -/
inductive Move (s : State) : State → Prop
  | host {t : State} (move : HostMove s t) : Move s t
  | decoder {t : State} (rest : List HostEvent) (released : s.env.rst = false) (busy : s.hif.busy = true)
      (tst : s.tpd.tst = .idle) (move : DecoderMove { s with env.script := rest } t) : Move s t
  | transactor {t : State} (rest : List HostEvent) (released : s.env.rst = false) (busy : s.hif.busy = true)
      (tst : s.tpd.tst ≠ .idle) (move : TransactorMove { s with env.script := rest } t) : Move s t

theorem move_of_engine {s t : State} {rest : List HostEvent} (released : s.env.rst = false)
    (next : (State.fetchEngine { s with env.script := rest }).run = .next t) : Move s t := by
  cases busy : s.hif.busy with
  | false =>
    rw [State.fetchEngine_free (s := { s with env.script := rest }) busy] at next
    cases next
    exact .host (.access s.hif.arg s.hif.ovr s.hif.tba _ released released rfl)
  | true =>
    by_cases tst : s.tpd.tst = .idle
    · rw [State.fetchEngine_tpdIdle (s := { s with env.script := rest }) busy tst] at next
      exact .decoder rest released busy tst (decoderMove_of_run next)
    · exact .transactor rest released busy tst (transactorMove_of_run (by exact busy) (by exact tst) next)

/-- Every step is one of these moves. -/
theorem move_of_step {s t : State} (next : step s = .next t) : Move s t := by
  cases rst : s.env.rst with
  | true =>
    rw [step_held rst] at next
    exact .host (hostMove_of_reset rst next)
  | false =>
    cases script : s.env.script with
    | nil =>
      rw [step_of_nil rst script] at next
      exact move_of_engine (rest := s.env.script) rst next
    | cons access rest =>
      cases access with
      | pause =>
        rw [step_of_pause rst script] at next
        exact move_of_engine rst next
      | rst b =>
        rw [step_of_rst script] at next
        cases next
        exact .host (hostMove_of_rst b rest)
      | read a =>
        rw [step_of_read rst script] at next
        exact .host (hostMove_of_read rst next)
      | write a v =>
        by_cases isOp : a = 0x00
        · subst isOp
          rw [step_of_writeOp rst script] at next
          exact .host (hostMove_of_request (arg := s.hif.arg) (decodeHostReq_format _ _) rst next)
        · rw [step_of_write rst script isOp] at next
          cases next
          exact .host (hostMove_of_write a v rest rst)
      | request w =>
        cases busy : s.hif.busy with
        | true =>
          rw [step_of_request_busy rst script busy] at next
          exact move_of_engine (rest := s.env.script) rst next
        | false =>
          rw [step_of_request_idle rst script busy] at next
          exact .host (hostMove_of_issueRequest rst next)

end Sys2Proof.Machine
end

section
/-! What every step keeps, move by move: the history and the parameters, the TagBuffer's form, the engines, the counts
of attempts, the cursor, the result of `DEC`, the reset values and the bus; obligations O10 and O46 to O53. -/

namespace Sys2Proof.Machine

/-! ## Frames of the moves -/

section
variable {s t : State}

/-- A request accepted writes neither the parameters nor the environment. -/
theorem Accepted.frame (move : Accepted s t) : t.par = s.par ∧ t.env = s.env := by
  cases move <;> exact ⟨rfl, rfl⟩

theorem State.lengthCut_frame (s : State) : s.lengthCut.tb = s.tb ∧ s.lengthCut.tpd = s.tpd ∧
    s.lengthCut.env = s.env ∧ s.lengthCut.par = s.par ∧
    s.lengthCut.hif = { s.hif with res := .notFound, cause := if s.ndd.tlvT = 0xFE then .terminator else .truncated } ∧
    s.lengthCut.ndd = { s.ndd with idx := s.ndd.ce, txtOff := 0, txtLen := 0, dst := .done } := by
  rw [State.lengthCut_eq]
  exact ⟨rfl, rfl, rfl, rfl, rfl, rfl⟩

/-- The decoder unit writes its own registers and the host's result flags alone (R71, R175, R260). -/
theorem DecoderMove.frame (move : DecoderMove s t) (tst : s.tpd.tst = .idle) :
    t.tb = s.tb ∧ t.tpd = s.tpd ∧ t.env = s.env ∧ t.par = s.par ∧ t.hif.op = s.hif.op ∧ t.hif.arg = s.hif.arg ∧
      t.hif.ovr = s.hif.ovr ∧ t.hif.tba = s.hif.tba := by
  cases move with
  | lengthCut =>
    obtain ⟨tb, tpd, env, par, hif, -⟩ := s.lengthCut_frame
    exact ⟨tb, tpd, env, par, by rw [hif], by rw [hif], by rw [hif], by rw [hif]⟩
  | completes =>
    rw [s.complete_of_tpdIdle tst]
    exact ⟨rfl, rfl, rfl, rfl, rfl, rfl, rfl, rfl⟩
  | _ => exact ⟨rfl, rfl, rfl, rfl, rfl, rfl, rfl, rfl⟩

/-- The decoder unit stays as it is, goes on, or completes. -/
theorem DecoderMove.progress (move : DecoderMove s t) :
    t = s ∨ (t.hif.busy = s.hif.busy ∧ s.ndd.dst ≠ .idle ∧ t.ndd.dst ≠ .idle) ∨
      (t.hif.busy = false ∧ t.ndd.dst = .idle) := by
  cases move with
  | stays => exact .inl rfl
  | completes => exact .inr (.inr ⟨rfl, rfl⟩)
  | lengthCut dst =>
    obtain ⟨-, -, -, -, hif, ndd⟩ := s.lengthCut_frame
    exact .inr (.inl ⟨by rw [hif], by simp [dst], by simp [ndd]⟩)
  | passed dst | noPayload dst | overrun _ dst =>
    refine .inr (.inl ⟨rfl, by simp [dst], ?_⟩)
    simp only [State.passRecord_ndd_dst, State.rejectRecord_ndd_dst]
    split <;> simp
  | endOfBuffer dst | nullType dst | type _ dst | length _ _ dst | message dst | terminator dst | value dst
  | nullDispatched dst | header _ _ _ _ _ dst | recordCut dst | messageEnd dst | languageCut dst | textCut _ dst
  | found _ _ _ dst =>
    exact .inr (.inl ⟨rfl, by simp [dst], by simp⟩)

/-- A failed attempt leaves the environment as it found it. -/
theorem State.raiseAttempt_env (s : State) (c : Cause) : (s.raiseAttempt c).env = s.env :=
  (s.raiseAttempt_attemptFailed c).2.2

theorem State.raiseAttempt_par (s : State) (c : Cause) : (s.raiseAttempt c).par = s.par := by
  obtain ⟨⟨-, ⟨-, par, -⟩, -⟩, -⟩ := s.raiseAttempt_attemptFailed c
  exact par

/-- The transactor only adds to the history and changes neither the parameters nor the level of `rst`. -/
theorem TransactorMove.frame (move : TransactorMove s t) :
    s.env.hist <+: t.env.hist ∧ t.par = s.par ∧ t.env.rst = s.env.rst := by
  have grows {e : Env} {es : List BusEvent} (hist : e.hist = s.env.hist ++ es) : s.env.hist <+: e.hist :=
    ⟨es, hist.symm⟩
  cases move with
  | waits | succeeds => exact ⟨List.prefix_rfl, rfl, rfl⟩
  | command _ _ _ _ _ _ rst hist | written _ _ _ rst hist | settled _ _ _ _ rst hist | response _ _ _ _ _ rst hist
  | again _ _ _ _ rst hist | hangs _ _ _ _ rst hist =>
    exact ⟨grows hist, rfl, rst⟩
  | fails c x e es tst free rst hist =>
    rw [State.raiseAttempt_env, State.raiseAttempt_par]
    exact ⟨grows hist, rfl, rst⟩
  | loopEnds => simp
  | nextPage => simp

end

/-! ## A failed attempt, by its parts -/

section
variable {s t : State} {c : Cause} (failed : attemptFailed s t c)
include failed

theorem attemptFailed.op : t.hif.op = s.hif.op := by
  obtain ⟨⟨-, op, -⟩, -⟩ := failed
  exact op

theorem attemptFailed.counts : t.tpd.attempts = s.tpd.attempts ∧ t.tpd.tryNo = s.tpd.tryNo ∧
    t.tpd.stuck = s.tpd.stuck := by
  obtain ⟨-, -, ⟨attempts, -, tryNo, -, stuck⟩, -⟩ := failed
  exact ⟨attempts, tryNo, stuck⟩

theorem attemptFailed.frame : t.tb = s.tb ∧ t.par = s.par ∧ { t.ndd with dst := s.ndd.dst } = s.ndd := by
  obtain ⟨-, frame, -⟩ := failed
  exact frame

/-- Another try behind a gap, or the end of the operation. -/
theorem attemptFailed.ends :
    (s.hif.retry = true ∧ s.tpd.tryNo.toNat < s.maxTries ∧ t.hif.busy = s.hif.busy ∧ t.tpd.tst = .gap ∧
        t.ndd.dst = s.ndd.dst) ∨
      (t.hif.busy = false ∧ t.tpd.tst = .idle ∧ t.ndd.dst = .idle) := by
  obtain ⟨-, -, -, -, ends⟩ := failed
  by_cases left : s.hif.retry = true ∧ s.tpd.tryNo.toNat < s.maxTries
  · obtain ⟨busy, -, tst, dst, -⟩ := (if_pos left).mp ends
    exact .inl ⟨left.1, left.2, busy, tst, dst⟩
  · obtain ⟨busy, -, tst, dst, -⟩ := (if_neg left).mp ends
    exact .inr ⟨busy, tst, dst⟩

/-- The result class of a failed attempt is never one of `DEC`'s. -/
theorem attemptFailed.res : t.hif.res = .notPresent ∨ t.hif.res = .noMorePages ∨ t.hif.res = .ok := by
  obtain ⟨-, -, -, -, ends⟩ := failed
  by_cases left : s.hif.retry = true ∧ s.tpd.tryNo.toNat < s.maxTries
  · obtain ⟨-, -, -, -, res⟩ := (if_pos left).mp ends
    rw [res]
    split <;> simp
  · obtain ⟨-, -, -, -, res⟩ := (if_neg left).mp ends
    rw [res]
    split_ifs <;> simp

end

/-! ## The history and the parameters (R13, R130) -/

/-- Settles O10. -/
theorem historyGrowsParametersStay : Obligations.HistoryGrowsParametersStay := by
  unfold Obligations.HistoryGrowsParametersStay
  intro s t next
  have kept : s.env.hist <+: t.env.hist ∧ t.par = s.par := by
    cases move_of_step next with
    | host move =>
      cases move with
      | access _ _ _ e _ _ hist | resets e hist => exact ⟨⟨[], by rw [List.append_nil]; exact hist.symm⟩, rfl⟩
      | accepted arg rest _ _ _ begun =>
        obtain ⟨par, env⟩ := begun.frame
        exact ⟨by rw [env], par⟩
      | dropped | releases => exact ⟨List.prefix_rfl, rfl⟩
    | decoder rest _ _ tst move =>
      obtain ⟨-, -, env, par, -⟩ := move.frame tst
      exact ⟨by rw [env], par⟩
    | transactor rest _ _ _ move =>
      obtain ⟨hist, par, -⟩ := move.frame
      exact ⟨hist, par⟩
  obtain ⟨hist, par⟩ := kept
  have capFits := t.par.cap.isLt
  exact ⟨hist, par, t.par.seven_le_cap, by omega⟩

/-! ## The TagBuffer's form (R31, R62, R70, R160) -/

/-- Values stand at exactly the indices below `TB_LEN`. -/
def TagBuffer.filled (tb : TagBuffer) : Prop := tb.cells.map Prod.fst = List.range tb.len.toNat

/-- A byte written behind all addresses is the last cell. -/
theorem Memory.write_eq_append {cells : List Host.Cell} {a : Nat} (v : Byte)
    (behind : ∀ k ∈ cells.map Prod.fst, k < a) : Memory.write cells a v = cells ++ [(a, v)] := by
  induction cells with
  | nil => rfl
  | cons c rest ih =>
    obtain ⟨k, w⟩ := c
    have first : k < a := behind k (by simp)
    rw [Memory.write, if_neg (by omega), if_neg (by omega), List.cons_append,
      ih fun x inside => behind x (List.mem_cons_of_mem _ inside)]

theorem State.tbPush_filled {s : State} (b : Byte) (filled : s.tb.filled)
    (room : s.tb.len.toNat < s.par.cap.toNat) : (s.tbPush b).tb.filled := by
  unfold TagBuffer.filled at filled ⊢
  rw [s.tbPush_len_toNat b room, List.range_succ, State.tbPush_tb_cells,
    Memory.write_eq_append b (by simp [filled]), List.map_append, filled]
  rfl

theorem State.tbAppend_filled (bs : List Byte) {s : State} (filled : s.tb.filled)
    (room : s.tb.len.toNat + bs.length ≤ s.par.cap.toNat) : (s.tbAppend bs).tb.filled := by
  induction bs generalizing s with
  | nil => exact filled
  | cons b bs ih =>
    rw [List.length_cons] at room
    refine ih (s.tbPush_filled b filled (by omega)) ?_
    rw [s.tbPush_len_toNat b (by omega), State.tbPush_par]
    omega

theorem State.pageAppended_filled {s : State} (f : Frame) (filled : s.tb.filled)
    (room : s.tb.len.toNat + 7 ≤ s.par.cap.toNat) : (s.pageAppended f).tb.filled := by
  have count := payloadCount_le f 2
  have length := payloadList_length f count
  refine State.tbAppend_filled _ (by exact filled) ?_
  rw [length]
  change s.tb.len.toNat + _ ≤ s.par.cap.toNat
  omega

section
variable {s t : State}

theorem Accepted.tagBufferInv (move : Accepted s t) (inv : s.tagBufferInv) : t.tagBufferInv := by
  obtain ⟨filled, within, -⟩ := inv
  cases move with
  | tries op page single =>
    refine ⟨filled, within, fun _ looping => ?_⟩
    change (op.extractLsb' 0 7 == 0x20) = true at looping
    simp only [List.mem_cons, List.not_mem_nil, or_false] at single
    obtain rfl | rfl | rfl | rfl := single <;> exact absurd looping (by decide)
  | pages => exact ⟨rfl, Nat.zero_le _, fun _ _ => s.par.seven_le_cap⟩
  | decodes => exact ⟨filled, within, fun _ looping => by cases looping⟩
  | clears => exact ⟨rfl, Nat.zero_le _, fun running => absurd rfl running⟩
  | appends b room =>
    refine ⟨State.tbPush_filled (s := s.accept 0x41) b filled room, ?_, fun running => absurd rfl running⟩
    have pushed := (s.accept 0x41).tbPush_len_toNat b room
    change ((s.accept 0x41).tbPush b).tb.len.toNat ≤ s.par.cap.toNat
    rw [pushed]
    exact room
  | refuses => exact ⟨filled, within, fun running => absurd rfl running⟩

theorem HostMove.tagBufferInv (move : HostMove s t) (inv : s.tagBufferInv) : t.tagBufferInv := by
  cases move with
  | access | dropped | releases => exact inv
  | accepted _ _ _ _ _ begun => exact begun.tagBufferInv inv
  | resets => exact ⟨rfl, Nat.zero_le _, fun running => absurd rfl running⟩

theorem DecoderMove.tagBufferInv (move : DecoderMove s t) (tst : s.tpd.tst = .idle) (inv : s.tagBufferInv) :
    t.tagBufferInv := by
  obtain ⟨filled, within, -⟩ := inv
  obtain ⟨tb, tpd, -, par, -⟩ := move.frame tst
  rw [State.tagBufferInv, tb, tpd, par]
  exact ⟨filled, within, fun running => absurd tst running⟩

theorem TransactorMove.tagBufferInv (move : TransactorMove s t) (running : s.tpd.tst ≠ .idle)
    (inv : s.tagBufferInv) : t.tagBufferInv := by
  obtain ⟨filled, within, room⟩ := id inv
  replace room := room running
  have appended (f : Frame) (looping : s.looping = true) : (s.pageAppended f).tb.filled ∧
      (s.pageAppended f).tb.len.toNat ≤ s.par.cap.toNat := by
    have count := payloadCount_le f 2
    have fits : s.tb.len.toNat + 7 ≤ s.par.cap.toNat := room looping
    have length := s.pageAppended_len_toNat f fits
    exact ⟨State.pageAppended_filled f filled fits, by omega⟩
  cases move with
  | waits => exact inv
  | command | written | settled | response | again | hangs => exact ⟨filled, within, fun _ => room⟩
  | fails c x e =>
    have failed := (State.raiseAttempt_attemptFailed { s with tpd.xbuf := x, env := e } c).1
    obtain ⟨tb, par, -⟩ := failed.frame
    rw [State.tagBufferInv, State.looping, HostRegs.fn, tb, par, failed.op]
    exact ⟨filled, within, fun _ => room⟩
  | succeeds => exact ⟨filled, within, fun stillRunning => absurd rfl stillRunning⟩
  | loopEnds f c _ looping =>
    obtain ⟨filled', within'⟩ := appended f looping
    refine ⟨filled', ?_, fun stillRunning => absurd rfl stillRunning⟩
    simpa using within'
  | nextPage f _ looping fits =>
    obtain ⟨filled', within'⟩ := appended f looping
    refine ⟨filled', ?_, fun _ _ => ?_⟩
    · simpa using within'
    · simpa [Config.payloadMax] using fits

end

/-- Settles O47, move by move; the indices below `TB_LEN` in order are strictly rising. -/
theorem tagBufferFormKept : Obligations.TagBufferFormKept := by
  unfold Obligations.TagBufferFormKept
  intro s t inv next
  have kept : t.tagBufferInv := by
    cases move_of_step next with
    | host move => exact move.tagBufferInv inv
    | decoder _ _ _ tst move => exact move.tagBufferInv tst inv
    | transactor _ _ _ running move => exact move.tagBufferInv running inv
  obtain ⟨filled, -, -⟩ := id kept
  refine ⟨kept, ?_⟩
  rw [Memory.wf, filled]
  exact List.pairwise_lt_range

/-! ## The engines (R3, R22, R39) -/

section
variable {s t : State}

/-- A free block of the engines' invariant is wholly idle, with no primitive in progress. -/
theorem State.engineInv.idle (inv : s.engineInv) (free : s.hif.busy = false) :
    s.tpd.tst = .idle ∧ s.ndd.dst = .idle ∧ s.tpd.stuck = false := by
  obtain ⟨idle, -, -, -, waiting⟩ := inv
  obtain ⟨tst, dst⟩ := idle free
  refine ⟨tst, dst, Bool.eq_false_iff.mpr fun stuck => ?_⟩
  have at' := waiting stuck
  simp [tst] at at'

/-- While the transactor runs the decoder unit is idle. -/
theorem State.engineInv.decoderIdle (inv : s.engineInv) (busy : s.hif.busy = true) (running : s.tpd.tst ≠ .idle) :
    s.ndd.dst = .idle := by
  obtain ⟨-, one, -, -, -⟩ := inv
  by_contra dst
  exact running ((one busy).mpr dst)

/-- A wholly idle block keeps the engines' invariant. -/
theorem State.engineInv_of_idle (free : s.hif.busy = false) (tst : s.tpd.tst = .idle) (dst : s.ndd.dst = .idle)
    (stuck : s.tpd.stuck = false) : s.engineInv := by
  simp [State.engineInv, free, tst, dst, stuck]

/-- The transactor alone runs, under an operation of its own. -/
theorem State.engineInv_of_transactor (busy : s.hif.busy = true) (running : s.tpd.tst ≠ .idle)
    (dst : s.ndd.dst = .idle) (op : s.hif.op ∈ [0x01, 0x81, 0x10, 0x90, 0x20, 0xA0])
    (stuck : s.tpd.stuck = true → s.tpd.tst = .write ∨ s.tpd.tst = .settle ∨ s.tpd.tst = .read ∨ s.tpd.tst = .gap) :
    s.engineInv :=
  ⟨by simp [busy], by simp [running, dst], fun _ => op, by simp [dst], stuck⟩

/-- The decoder unit alone runs, under `DEC`. -/
theorem State.engineInv_of_decoder (busy : s.hif.busy = true) (tst : s.tpd.tst = .idle) (running : s.ndd.dst ≠ .idle)
    (op : s.hif.op = 0x30) (stuck : s.tpd.stuck = false) : s.engineInv :=
  ⟨by simp [busy], by simp [tst, running], by simp [tst], fun _ => op, by simp [stuck]⟩

theorem Accepted.engineInv (move : Accepted s t) (free : s.hif.busy = false) (inv : s.engineInv) : t.engineInv := by
  obtain ⟨tst, dst, stuck⟩ := inv.idle free
  cases move with
  | tries op page single =>
    refine State.engineInv_of_transactor rfl (by simp) dst ?_ (by simp [stuck])
    simp only [List.mem_cons, List.not_mem_nil, or_false] at single
    obtain rfl | rfl | rfl | rfl := single <;> simp
  | pages op page loop =>
    refine State.engineInv_of_transactor rfl (by simp) dst ?_ (by simp [stuck])
    simp only [List.mem_cons, List.not_mem_nil, or_false] at loop
    obtain rfl | rfl := loop <;> simp
  | decodes => exact State.engineInv_of_decoder rfl tst (by simp) rfl stuck
  | clears | appends | refuses => exact State.engineInv_of_idle rfl rfl rfl stuck

theorem HostMove.engineInv (move : HostMove s t) (inv : s.engineInv) : t.engineInv := by
  cases move with
  | access | dropped | releases => exact inv
  | accepted _ _ _ _ free begun => exact begun.engineInv free inv
  | resets => exact State.engineInv_of_idle rfl rfl rfl rfl

theorem DecoderMove.engineInv (move : DecoderMove s t) (busy : s.hif.busy = true) (tst : s.tpd.tst = .idle)
    (inv : s.engineInv) : t.engineInv := by
  obtain ⟨-, -, -, dec, waiting⟩ := id inv
  have free : s.tpd.stuck = false := Bool.eq_false_iff.mpr fun stuck => by
    have at' := waiting stuck
    simp [tst] at at'
  obtain ⟨-, tpd, -, -, op, -⟩ := move.frame tst
  obtain rfl | ⟨stillBusy, dst, dst'⟩ | ⟨idle, dst'⟩ := move.progress
  · exact inv
  · exact State.engineInv_of_decoder (stillBusy.trans busy) (by rw [tpd, tst]) dst' (op.trans (dec dst))
      (by rw [tpd, free])
  · exact State.engineInv_of_idle idle (by rw [tpd, tst]) dst' (by rw [tpd, free])

theorem TransactorMove.engineInv (move : TransactorMove s t) (busy : s.hif.busy = true)
    (running : s.tpd.tst ≠ .idle) (inv : s.engineInv) : t.engineInv := by
  have dst := inv.decoderIdle busy running
  obtain ⟨-, -, ops, -, waiting⟩ := id inv
  have op := ops running
  have checking (tst : s.tpd.tst = .check) : s.tpd.stuck = false := Bool.eq_false_iff.mpr fun stuck => by
    have at' := waiting stuck
    simp [tst] at at'
  cases move with
  | waits => exact inv
  | command => exact State.engineInv_of_transactor busy (by simp) dst op (by simp)
  | written _ _ free | settled _ _ _ free | response _ _ _ _ free | again _ _ _ free =>
    exact State.engineInv_of_transactor busy (by simp) dst op (by simp [free])
  | hangs _ _ tst => exact State.engineInv_of_transactor busy running dst op fun _ => tst
  | fails c x e es tst free =>
    have failed := (State.raiseAttempt_attemptFailed { s with tpd.xbuf := x, env := e } c).1
    have notStuck : (State.raiseAttempt { s with tpd.xbuf := x, env := e } c).tpd.stuck = false :=
      failed.counts.2.2.trans (free.elim checking id)
    obtain ⟨-, -, busy', tst', dst'⟩ | ⟨free', tst', dst'⟩ := failed.ends
    · exact State.engineInv_of_transactor (busy'.trans busy) (by simp [tst']) (dst'.trans dst)
        (by rw [failed.op]; exact op) (by simp [notStuck])
    · exact State.engineInv_of_idle free' tst' dst' notStuck
  | succeeds r tst counts =>
    obtain ⟨-, -, stuck⟩ := counts
    exact State.engineInv_of_idle rfl rfl rfl (stuck.trans (checking tst))
  | loopEnds f c tst =>
    refine State.engineInv_of_idle rfl rfl rfl ?_
    simp [checking tst]
  | nextPage f tst =>
    refine State.engineInv_of_transactor ?_ (by simp) ?_ ?_ ?_ <;> simp [busy, dst, checking tst]
    simpa using op

end

/-- Settles O48. -/
theorem oneEngineRuns : Obligations.OneEngineRuns := by
  unfold Obligations.OneEngineRuns
  intro s t inv next
  cases move_of_step next with
  | host move => exact move.engineInv inv
  | decoder _ _ busy tst move => exact move.engineInv busy tst inv
  | transactor _ _ busy running move => exact move.engineInv busy running inv

/-! ## The counts of attempts (R27, R39, R134, R136) -/

section
variable {s t : State}

theorem State.maxTries_le (s : State) : s.maxTries ≤ 12 := by
  unfold State.maxTries
  split <;> decide

theorem State.one_le_maxTries (s : State) : 1 ≤ s.maxTries := by
  unfold State.maxTries
  split <;> decide

/-- The transactor idle, only the bound counts. -/
theorem State.attemptInv_of_idle (tst : s.tpd.tst = .idle) (bound : s.tpd.attempts.toNat ≤ 12) : s.attemptInv :=
  ⟨bound, fun running => absurd tst running⟩

/-- The attempts of a page or a select begin uncounted. -/
theorem State.beginTries_attemptInv (s : State) (page : Byte) : (s.beginTries page).attemptInv := by
  refine ⟨Nat.zero_le _, fun _ => ?_⟩
  rw [State.beginTries_hif]
  split
  case isTrue retry =>
    have first : (s.beginTries page).tpd.tryNo = 1 := if_pos retry
    refine ⟨?_, ?_, fun gap => by cases gap⟩
    · rw [first]
      exact (s.beginTries page).one_le_maxTries
    · rw [first, State.beginTries_tpd_tst, if_pos rfl]
      rfl
  case isFalse => exact ⟨by simp, by simp⟩

theorem Accepted.attemptInv (move : Accepted s t) (tst : s.tpd.tst = .idle) (inv : s.attemptInv) : t.attemptInv := by
  obtain ⟨bound, -⟩ := inv
  cases move with
  | tries op page => exact (s.accept op).beginTries_attemptInv page
  | pages op page => exact (s.accept op).tbClear.beginTries_attemptInv page
  | decodes => exact State.attemptInv_of_idle tst bound
  | clears | appends | refuses => exact State.attemptInv_of_idle rfl bound

theorem HostMove.attemptInv (move : HostMove s t) (engine : s.engineInv) (inv : s.attemptInv) : t.attemptInv := by
  cases move with
  | access | dropped | releases => exact inv
  | accepted _ _ _ _ free begun =>
    obtain ⟨tst, -, -⟩ := engine.idle free
    exact begun.attemptInv tst inv
  | resets => exact State.attemptInv_of_idle rfl (Nat.zero_le _)

theorem DecoderMove.attemptInv (move : DecoderMove s t) (tst : s.tpd.tst = .idle) (inv : s.attemptInv) :
    t.attemptInv := by
  obtain ⟨bound, -⟩ := inv
  obtain ⟨-, tpd, -⟩ := move.frame tst
  exact State.attemptInv_of_idle (by rw [tpd, tst]) (by rw [tpd]; exact bound)

/-- Behind the command of an attempt the counts agree. -/
theorem State.attemptInv.commanded (inv : s.attemptInv) (tst : s.tpd.tst = .build) :
    (s.tpd.attempts + 1).toNat ≤ 12 ∧
      (s.hif.retry = true → s.tpd.tryNo.toNat ≤ s.maxTries ∧ s.tpd.attempts + 1 = s.tpd.tryNo) ∧
      (s.hif.retry = false → s.tpd.attempts + 1 = 1) := by
  obtain ⟨-, counts⟩ := inv
  replace counts := counts (by simp [tst])
  have most := s.maxTries_le
  cases retry : s.hif.retry with
  | true =>
    obtain ⟨bounded, counted, -⟩ : s.retryCounts := by rwa [if_pos retry] at counts
    rw [if_pos tst] at counted
    have agree : s.tpd.attempts + 1 = s.tpd.tryNo := by
      apply BitVec.eq_of_toNat_eq
      rw [BitVec.toNat_add_of_lt (show s.tpd.attempts.toNat + 1 < 2 ^ 4 by omega)]
      exact counted
    exact ⟨by rw [agree]; omega, fun _ => ⟨bounded, agree⟩, by simp⟩
  | false =>
    obtain ⟨-, none⟩ : s.singleCounts := by rwa [if_neg (by simp [retry])] at counts
    rw [if_pos tst] at none
    exact ⟨by rw [none]; decide, by simp, fun _ => by rw [none]; rfl⟩

/-- Counts that agree keep the invariant in every state between the command and the gap. -/
theorem State.attemptInv_of_counted (bound : s.tpd.attempts.toNat ≤ 12) (notBuild : s.tpd.tst ≠ .build)
    (retrying : s.hif.retry = true → s.tpd.tryNo.toNat ≤ s.maxTries ∧ s.tpd.attempts = s.tpd.tryNo)
    (single : s.hif.retry = false → s.tpd.attempts = 1)
    (gap : s.tpd.tst = .gap → s.hif.retry = true ∧ s.tpd.tryNo.toNat < s.maxTries) : s.attemptInv := by
  refine ⟨bound, fun _ => ?_⟩
  split
  case isTrue retry =>
    obtain ⟨bounded, agree⟩ := retrying retry
    exact ⟨bounded, by rwa [if_neg notBuild], fun at' => (gap at').2⟩
  case isFalse once =>
    exact ⟨fun at' => once (gap at').1, by rw [if_neg notBuild]; exact single (by simpa using once)⟩

/-- Between the command and the gap the counts agree. -/
theorem State.attemptInv.counted (inv : s.attemptInv) (running : s.tpd.tst ≠ .idle) (notBuild : s.tpd.tst ≠ .build) :
    (s.hif.retry = true → s.tpd.tryNo.toNat ≤ s.maxTries ∧ s.tpd.attempts = s.tpd.tryNo) ∧
      (s.hif.retry = false → s.tpd.attempts = 1) ∧
      (s.tpd.tst = .gap → s.hif.retry = true ∧ s.tpd.tryNo.toNat < s.maxTries) := by
  obtain ⟨-, counts⟩ := inv
  replace counts := counts running
  cases retry : s.hif.retry with
  | true =>
    obtain ⟨bounded, counted, left⟩ : s.retryCounts := by rwa [if_pos retry] at counts
    rw [if_neg notBuild] at counted
    exact ⟨fun _ => ⟨bounded, counted⟩, by simp, fun gap => ⟨rfl, left gap⟩⟩
  | false =>
    obtain ⟨notGap, counted⟩ : s.singleCounts := by rwa [if_neg (by simp [retry])] at counts
    rw [if_neg notBuild] at counted
    exact ⟨by simp, fun _ => counted, fun gap => absurd gap notGap⟩

theorem TransactorMove.attemptInv (move : TransactorMove s t) (running : s.tpd.tst ≠ .idle) (inv : s.attemptInv) :
    t.attemptInv := by
  have bound : s.tpd.attempts.toNat ≤ 12 := inv.1
  cases move with
  | waits => exact inv
  | command _ _ _ _ _ tst =>
    obtain ⟨bound', retrying, single⟩ := inv.commanded tst
    exact State.attemptInv_of_counted bound' (by simp) retrying single (by simp)
  | written _ tst | settled _ _ tst | response _ _ _ tst =>
    obtain ⟨retrying, single, -⟩ := inv.counted running (by simp [tst])
    exact State.attemptInv_of_counted bound (by simp) retrying single (by simp)
  | hangs e es tst =>
    have notBuild : s.tpd.tst ≠ .build := by obtain tst | tst | tst | tst := tst <;> simp [tst]
    obtain ⟨retrying, single, gap⟩ := inv.counted running notBuild
    exact State.attemptInv_of_counted bound notBuild retrying single gap
  | again e es tst =>
    obtain ⟨retrying, -, gap⟩ := inv.counted running (by simp [tst])
    obtain ⟨retry, left⟩ := gap tst
    obtain ⟨-, counted⟩ := retrying retry
    have most := s.maxTries_le
    have next : (s.tpd.tryNo + 1).toNat = s.tpd.tryNo.toNat + 1 :=
      BitVec.toNat_add_of_lt (show s.tpd.tryNo.toNat + 1 < 2 ^ 4 by omega)
    refine ⟨bound, fun _ => ?_⟩
    rw [if_pos (by exact retry)]
    refine ⟨?_, ?_, by simp⟩
    · change (s.tpd.tryNo + 1).toNat ≤ s.maxTries
      omega
    · rw [if_pos rfl]
      change s.tpd.attempts.toNat + 1 = (s.tpd.tryNo + 1).toNat
      rw [counted, next]
  | fails c x e es tst =>
    have notBuild : s.tpd.tst ≠ .build := by obtain tst | tst | tst := tst <;> simp [tst]
    obtain ⟨retrying, single, -⟩ := inv.counted running notBuild
    have failed := (State.raiseAttempt_attemptFailed { s with tpd.xbuf := x, env := e } c).1
    obtain ⟨attempts, tryNo, -⟩ := failed.counts
    have bound' : (State.raiseAttempt { s with tpd.xbuf := x, env := e } c).tpd.attempts.toNat ≤ 12 := by
      rw [attempts]; exact bound
    obtain ⟨retry, left, -, gap, -⟩ | ⟨-, idle, -⟩ := failed.ends
    · refine State.attemptInv_of_counted bound' (by simp [gap]) ?_ ?_ ?_ <;>
        rw [HostRegs.retry, failed.op]
      · rw [State.maxTries, State.selecting, HostRegs.fn, failed.op, attempts, tryNo]
        exact retrying
      · rw [attempts]
        exact single
      · rw [State.maxTries, State.selecting, HostRegs.fn, failed.op, tryNo]
        exact fun _ => ⟨retry, left⟩
    · exact State.attemptInv_of_idle idle bound'
  | succeeds r tst counts =>
    obtain ⟨attempts, -, -⟩ := counts
    exact State.attemptInv_of_idle rfl (by simpa [attempts] using bound)
  | loopEnds => exact State.attemptInv_of_idle rfl (by simpa using bound)
  | nextPage => exact State.beginTries_attemptInv _ _

end

/-- Settles O49. -/
theorem attemptsCounted : Obligations.AttemptsCounted := by
  unfold Obligations.AttemptsCounted
  intro s t engine inv next
  cases move_of_step next with
  | host move => exact move.attemptInv engine inv
  | decoder _ _ _ tst move => exact move.attemptInv tst inv
  | transactor _ _ _ running move => exact move.attemptInv running inv

/-! ## The cursor (R34, R35, R80, R262) -/

section
variable {s t : State}

/-- The decoder idle, only the bound counts. -/
theorem State.cursorInv_of_idle (dst : s.ndd.dst = .idle) (bounded : s.ndd.idx.toNat ≤ s.ndd.ce.toNat) :
    s.cursorInv := by
  simp [State.cursorInv, dst, bounded]

/-- Where a type is read next, or a scan has ended, only the bounds count. -/
theorem State.cursorInv_of_between (bounded : s.ndd.idx.toNat ≤ s.ndd.ce.toNat) (ce : s.ndd.ce = s.tb.len)
    (dst : s.ndd.dst = .readType ∨ s.ndd.dst = .done) : s.cursorInv := by
  refine ⟨bounded, fun _ => ce, ?_, ?_, ?_⟩ <;> obtain dst | dst := dst <;> simp [dst]

/-- Behind a record, the next one or the outer scan goes on. -/
theorem State.cursorInv_of_passed (bounded : s.ndd.idx.toNat ≤ s.ndd.ce.toNat) (ce : s.ndd.ce = s.tb.len)
    (me : Bool) (dst : s.ndd.dst = if me then .readType else .record) (outside : s.ndd.inBody = false) :
    s.cursorInv := by
  refine ⟨bounded, fun _ => ce, ?_, ?_, by simp [outside]⟩ <;> cases me <;> simp [dst]

theorem State.passRecord_cursorInv (s : State) (ce : s.ndd.ce = s.tb.len) : s.passRecord.cursorInv :=
  State.cursorInv_of_passed (by rw [s.passRecord_idx_toNat]; exact Nat.min_le_right _ _) ce (hdrME s.ndd.hdr) rfl rfl

theorem State.exhaust_cursorInv (s : State) (ce : s.ndd.ce = s.tb.len) : s.exhaust.cursorInv :=
  State.cursorInv_of_between (by simp) ce (.inr rfl)

theorem DecoderMove.cursorInv (move : DecoderMove s t) (inv : s.cursorInv) : t.cursorInv := by
  obtain ⟨bounded, running, notNull, message, inBody⟩ := id inv
  cases move with
  | stays => exact inv
  | endOfBuffer dst => exact State.cursorInv_of_between bounded (running (by simp [dst])) (.inr rfl)
  | nullType dst below =>
    refine State.cursorInv_of_between ?_ (running (by simp [dst])) (.inl rfl)
    rw [s.readType_idx_toNat _ _ below]
    exact below
  | type b dst below typed =>
    have ce := running (by simp [dst])
    refine ⟨?_, fun _ => ce, fun _ => typed, by simp, by simp⟩
    rw [s.readType_idx_toNat _ _ below]
    exact below
  | length n l dst fits =>
    obtain ⟨idx, msgend⟩ := s.readLength_toNat n l fits
    have ce := running (by simp [dst])
    have typed := notNull (.inl dst)
    refine ⟨by rw [idx]; exact fits, fun _ => ce, fun _ => typed, fun _ => ?_, by simp⟩
    rw [msgend, idx]
    rfl
  | lengthCut dst =>
    obtain ⟨tb, -, -, -, -, ndd⟩ := s.lengthCut_frame
    have ce := running (by simp [dst])
    exact State.cursorInv_of_between (by simp [ndd]) (by rw [ndd, tb]; exact ce) (.inr (by rw [ndd]))
  | message dst =>
    have ce := running (by simp [dst])
    exact State.cursorInv_of_passed bounded ce false rfl rfl
  | terminator dst => exact State.cursorInv_of_between bounded (running (by simp [dst])) (.inr rfl)
  | value dst =>
    refine State.cursorInv_of_between ?_ (running (by simp [dst])) (.inl rfl)
    exact (s.skip_le _).trans_le (Nat.min_le_right _ _)
  | nullDispatched dst null => exact absurd null (notNull (.inr dst))
  | header n h tl p i dst fits =>
    have ce := running (by simp [dst])
    refine ⟨?_, fun _ => ce, by simp, by simp, fun _ _ => rfl⟩
    exact (ofNat_toNat_of_le fits).trans_le fits
  | recordCut dst => exact s.exhaust_cursorInv (running (by simp [dst]))
  | messageEnd dst => exact State.cursorInv_of_between bounded (running (by simp [dst])) (.inl rfl)
  | passed dst => exact s.passRecord_cursorInv (running (by simp [dst]))
  | noPayload dst => exact State.passRecord_cursorInv _ (running (by simp [dst]))
  | languageCut dst => exact s.pastId.exhaust_cursorInv (running (by simp [dst]))
  | overrun g dst => exact State.passRecord_cursorInv _ (running (by simp [dst]))
  | textCut g dst => exact (s.behindLanguage g).exhaust_cursorInv (running (by simp [dst]))
  | found g start len dst _ fits =>
    refine State.cursorInv_of_between ?_ (running (by simp [dst])) (.inr rfl)
    exact (ofNat_toNat_of_le fits).trans_le fits
  | completes => exact State.cursorInv_of_idle rfl bounded

theorem TransactorMove.cursorInv (move : TransactorMove s t) (dst : s.ndd.dst = .idle) (inv : s.cursorInv) :
    t.cursorInv := by
  obtain ⟨bounded, -⟩ := id inv
  cases move with
  | waits => exact inv
  | command | written | settled | response | again | hangs => exact State.cursorInv_of_idle dst bounded
  | fails c x e =>
    have failed := (State.raiseAttempt_attemptFailed { s with tpd.xbuf := x, env := e } c).1
    obtain ⟨-, -, ndd⟩ := failed.frame
    refine State.cursorInv_of_idle ?_ ?_
    · obtain ⟨-, -, -, -, dst'⟩ | ⟨-, -, dst'⟩ := failed.ends
      · exact dst'.trans dst
      · exact dst'
    · have idx := congrArg Ndd.idx ndd
      have ce := congrArg Ndd.ce ndd
      exact (congrArg BitVec.toNat idx).trans_le (bounded.trans_eq (congrArg BitVec.toNat ce).symm)
  | succeeds => exact State.cursorInv_of_idle rfl bounded
  | loopEnds => exact State.cursorInv_of_idle rfl (by simpa using bounded)
  | nextPage => exact State.cursorInv_of_idle (by simpa using dst) (by simpa using bounded)

theorem HostMove.cursorInv (move : HostMove s t) (engine : s.engineInv) (inv : s.cursorInv) : t.cursorInv := by
  obtain ⟨bounded, -⟩ := id inv
  cases move with
  | access | dropped | releases => exact inv
  | accepted _ _ _ _ free begun =>
    obtain ⟨-, dst, -⟩ := engine.idle free
    cases begun with
    | tries | pages => exact State.cursorInv_of_idle dst bounded
    | decodes => exact State.cursorInv_of_between (Nat.zero_le _) rfl (.inl rfl)
    | clears | appends | refuses => exact State.cursorInv_of_idle rfl bounded
  | resets => exact State.cursorInv_of_idle rfl (Nat.le_refl _)

end

/-- Settles O50. -/
theorem cursorBounded : Obligations.CursorBounded := by
  unfold Obligations.CursorBounded
  intro s t engine inv next
  cases move_of_step next with
  | host move => exact move.cursorInv engine inv
  | decoder _ _ _ _ move => exact move.cursorInv inv
  | transactor _ _ busy running move => exact move.cursorInv (engine.decoderIdle busy running) inv

/-! ## The decoder unit's own moves (R71, R185, R260) -/

section
variable {s t : State}

/-- From `BODY` a record's declared end never lies before the cursor. -/
theorem State.le_passRecord (s : State) (body : s.ndd.body = s.ndd.idx) (bounded : s.ndd.idx.toNat ≤ s.ndd.ce.toNat) :
    s.ndd.idx.toNat ≤ min s.recordEnd s.ndd.ce.toNat := by
  unfold State.recordEnd
  rw [body]
  omega

/-- What is cut sends the cursor to `CE`. -/
theorem State.exhaust_idx_toNat (s : State) : s.exhaust.ndd.idx.toNat = s.ndd.ce.toNat := by simp

theorem DecoderMove.cursor_le (move : DecoderMove s t) (inv : s.cursorInv) : s.ndd.idx.toNat ≤ t.ndd.idx.toNat := by
  obtain ⟨bounded, -, notNull, -, body⟩ := inv
  have past := s.pastId_idx_toNat
  cases move with
  | stays | endOfBuffer | message | terminator | messageEnd | completes => exact Nat.le_refl _
  | nullType _ below | type _ _ below => rw [s.readType_idx_toNat _ _ below]; omega
  | length n l _ fits => rw [(s.readLength_toNat n l fits).1]; omega
  | lengthCut =>
    obtain ⟨-, -, -, -, -, ndd⟩ := s.lengthCut_frame
    rw [ndd]
    exact bounded
  | value =>
    refine Nat.le_trans ?_ (s.skip_le _).ge
    omega
  | nullDispatched dst null => exact absurd null (notNull (.inr dst))
  | header n _ _ _ _ _ fits =>
    refine Nat.le_trans ?_ (ofNat_toNat_of_le fits).ge
    omega
  | recordCut => exact bounded.trans_eq s.exhaust_idx_toNat.symm
  | languageCut => exact bounded.trans_eq s.pastId.exhaust_idx_toNat.symm
  | textCut g => exact bounded.trans_eq (s.behindLanguage g).exhaust_idx_toNat.symm
  | passed dst inBody =>
    exact (s.le_passRecord (body dst inBody) bounded).trans s.passRecord_idx_toNat.ge
  | noPayload dst inBody | overrun _ dst inBody =>
    exact (s.le_passRecord (body dst inBody) bounded).trans (State.passRecord_idx_toNat _).ge
  | found g start len _ behind fits =>
    refine Nat.le_trans ?_ (ofNat_toNat_of_le fits).ge
    omega

end

/-- Settles O46. -/
theorem decoderTouchesNothingElse : Obligations.DecoderTouchesNothingElse := by
  unfold Obligations.DecoderTouchesNothingElse
  intro s t decoding next
  obtain ⟨-, tst, -⟩ := id decoding
  have move := decoderMove_of_run (decoding.step_eq.symm.trans next)
  obtain ⟨tb, tpd, env, par, op, arg, ovr, tba⟩ := move.frame tst
  exact ⟨tb, tpd, env, par, op, arg, ovr, tba, move.cursor_le⟩

/-! ## The result of `DEC` (R38, R186) -/

section
variable {s t : State}

theorem State.decodeInv_of_running (readType : s.ndd.dst ≠ .idle) (notDone : s.ndd.dst ≠ .done) : s.decodeInv :=
  ⟨fun ended => (ended.elim readType notDone).elim, fun ended => (ended.elim readType notDone).elim⟩

theorem State.decodeInv_of_otherRes (notFound : s.hif.res ≠ .notFound) (found : s.hif.res ≠ .found) : s.decodeInv :=
  ⟨fun _ res => absurd res found, fun _ res => absurd res notFound⟩

/-- A scan that ends without a text. -/
theorem State.decodeInv_of_notFound (res : s.hif.res = .notFound) (off : s.ndd.txtOff = 0) (len : s.ndd.txtLen = 0)
    (cause : s.hif.cause = .terminator ∨
      ((s.hif.cause = .endOfBuffer ∨ s.hif.cause = .truncated) ∧ s.ndd.idx = s.ndd.ce)) : s.decodeInv :=
  ⟨fun _ found => by simp [res] at found, fun _ _ => ⟨off, len, cause⟩⟩

theorem State.exhaust_decodeInv (s : State) : s.exhaust.decodeInv :=
  State.decodeInv_of_notFound rfl rfl rfl (.inr ⟨.inr rfl, by simp⟩)

/-- The registers of the result kept, and the scan no more ended than before. -/
theorem State.decodeInv.kept (inv : s.decodeInv) (ended : t.scanEnded → s.scanEnded) (res : t.hif.res = s.hif.res)
    (cause : t.hif.cause = s.hif.cause) (ndd : { t.ndd with dst := s.ndd.dst } = s.ndd) : t.decodeInv := by
  obtain ⟨ce, idx, -, -, -, -, -, -, -, -, -, off, len, -⟩ := Ndd.mk.inj ndd
  obtain ⟨found, notFound⟩ := inv
  rw [State.decodeInv, res, cause, idx, ce, off, len]
  exact ⟨fun h => found (ended h), fun h => notFound (ended h)⟩

theorem DecoderMove.decodeInv (move : DecoderMove s t) (cursor : s.cursorInv) (inv : s.decodeInv) : t.decodeInv := by
  obtain ⟨bounded, -⟩ := cursor
  cases move with
  | stays => exact inv
  | endOfBuffer _ atEnd =>
    have same : s.ndd.idx = s.ndd.ce := BitVec.eq_of_toNat_eq (Nat.le_antisymm bounded atEnd)
    exact State.decodeInv_of_notFound rfl rfl rfl (.inr ⟨.inl rfl, same⟩)
  | terminator => exact State.decodeInv_of_notFound rfl rfl rfl (.inl rfl)
  | lengthCut =>
    obtain ⟨-, -, -, -, hif, ndd⟩ := s.lengthCut_frame
    refine State.decodeInv_of_notFound (by rw [hif]) (by rw [ndd]) (by rw [ndd]) ?_
    rw [hif, ndd]
    dsimp only
    split <;> simp
  | nullType | type | length | message | value | nullDispatched | header | messageEnd =>
    exact State.decodeInv_of_running (by simp) (by simp)
  | recordCut | languageCut | textCut => exact State.exhaust_decodeInv _
  | passed | noPayload | overrun =>
    refine State.decodeInv_of_running ?_ ?_ <;>
    · simp only [State.passRecord_ndd_dst, State.rejectRecord_ndd_dst]
      split <;> simp
  | found g start len _ _ fits =>
    refine ⟨fun _ _ => ⟨rfl, ?_, ?_⟩, fun _ res => by cases res⟩
    · have startFits : start ≤ s.ndd.ce.toNat := by omega
      have lenFits : len ≤ s.ndd.ce.toNat := by omega
      rw [State.raiseFound_ndd_idx, State.raiseFound_ndd_txtOff, State.raiseFound_ndd_txtLen,
        ofNat_toNat_of_le fits, ofNat_toNat_of_le startFits, ofNat_toNat_of_le lenFits]
    · exact (ofNat_toNat_of_le fits).trans_le fits
  | completes dst => exact inv.kept (fun _ => .inr dst) rfl rfl rfl

theorem TransactorMove.decodeInv (move : TransactorMove s t) (inv : s.decodeInv) : t.decodeInv := by
  cases move with
  | waits => exact inv
  | command | written | settled | response | again | hangs => exact inv.kept id rfl rfl rfl
  | fails c x e =>
    have failed := (State.raiseAttempt_attemptFailed { s with tpd.xbuf := x, env := e } c).1
    obtain res | res | res := failed.res <;> exact State.decodeInv_of_otherRes (by simp [res]) (by simp [res])
  | succeeds => exact State.decodeInv_of_otherRes (by simp) (by simp)
  | loopEnds => exact State.decodeInv_of_otherRes (by simp) (by simp)
  | nextPage => exact State.decodeInv_of_otherRes (by simp) (by simp)

theorem HostMove.decodeInv (move : HostMove s t) (inv : s.decodeInv) : t.decodeInv := by
  cases move with
  | access | dropped | releases => exact inv
  | accepted _ _ _ _ free begun =>
    cases begun with
    | tries | pages => exact inv.kept id rfl rfl rfl
    | decodes => exact State.decodeInv_of_running (by simp) (by simp)
    | clears | appends | refuses => exact State.decodeInv_of_otherRes (by simp) (by simp)
  | resets => exact State.decodeInv_of_otherRes (by simp [State.toReset]) (by simp [State.toReset])

end

/-- Settles O51. -/
theorem decodeResultContract : Obligations.DecodeResultContract := by
  unfold Obligations.DecodeResultContract
  intro s t _ cursor inv next
  cases move_of_step next with
  | host move => exact move.decodeInv inv
  | decoder _ _ _ _ move => exact move.decodeInv cursor inv
  | transactor _ _ _ _ move => exact move.decodeInv inv

/-! ## Reset held (R250) -/

/-- Settles O52: out of reset only the asserting of `rst` leads into it, and in reset no other move writes a
register. -/
theorem resetHeld : Obligations.ResetHeld := by
  unfold Obligations.ResetHeld
  intro s t inv next held
  cases move_of_step next with
  | host move =>
    cases move with
    | access _ _ _ _ _ rst => simp [rst] at held
    | accepted _ _ _ released _ begun =>
      obtain ⟨-, env⟩ := begun.frame
      rw [env] at held
      simp [released] at held
    | dropped rest inReset =>
      have atReset := inv inReset
      calc { s with env.script := rest }
        _ = { s.toReset with env.script := rest } := by rw [← atReset]
        _ = State.toReset { s with env.script := rest } := rfl
    | resets => rfl
    | releases => cases held
  | decoder _ released _ tst move =>
    obtain ⟨-, -, env, -⟩ := move.frame tst
    rw [env] at held
    simp [released] at held
  | transactor _ released _ _ move =>
    obtain ⟨-, -, rst⟩ := move.frame
    rw [rst] at held
    simp [released] at held

/-! ## The bus (R87, R130) -/

/-- One event's effect on the bus being taken. -/
theorem busHeld_append_singleton (h : List BusEvent) (e : BusEvent) : busHeld (h ++ [e]) = match e with
    | .busBegin => true
    | .busEnd => false
    | .busSetAddr _ | .busWrite _ | .writeAnswer _ | .busDelay _ | .busRead _ | .readAnswer _ => busHeld h := by
  rw [busHeld, List.foldl_append]
  cases e <;> rfl

/-- Without a `BusEnd` the bus stays taken. -/
theorem busHeld_append {h es : List BusEvent} (held : busHeld h = true) (noEnd : .busEnd ∉ es) :
    busHeld (h ++ es) = true := by
  induction es generalizing h with
  | nil => rwa [List.append_nil]
  | cons e es ih =>
    obtain ⟨notEnd, rest⟩ : .busEnd ≠ e ∧ .busEnd ∉ es := by simpa only [List.mem_cons, not_or] using noEnd
    rw [List.append_cons]
    refine ih ?_ rest
    rw [busHeld_append_singleton]
    cases e with
    | busEnd => exact absurd rfl notEnd
    | busBegin => rfl
    | busSetAddr | busWrite | writeAnswer | busDelay | busRead | readAnswer => exact held

section
variable {s t : State}

theorem State.busInv_of_released (notWrite : s.tpd.tst ≠ .write) (notSettle : s.tpd.tst ≠ .settle)
    (notRead : s.tpd.tst ≠ .read) : s.busInv :=
  fun at' => (at'.elim notWrite fun at' => at'.elim notSettle notRead).elim

theorem State.busInv_of_idle (tst : s.tpd.tst = .idle) : s.busInv :=
  State.busInv_of_released (by simp [tst]) (by simp [tst]) (by simp [tst])

/-- Where no `BusEnd` is stuck, the bus is held. -/
theorem State.busInv.held (inv : s.busInv) (free : s.tpd.stuck = false)
    (attempt : s.tpd.tst = .write ∨ s.tpd.tst = .settle ∨ s.tpd.tst = .read) : busHeld s.env.hist = true := by
  obtain held | ⟨stuck, -⟩ := inv attempt
  · exact held
  · simp [free] at stuck

theorem TransactorMove.busInv (move : TransactorMove s t) (inv : s.busInv) : t.busInv := by
  cases move with
  | waits => exact inv
  | command _ _ _ e es _ _ hist noEnd =>
    refine fun _ => .inl ?_
    change busHeld e.hist = true
    rw [hist, List.append_cons]
    exact busHeld_append (by rw [busHeld_append_singleton]) noEnd
  | written e tst free _ hist =>
    refine fun _ => .inl ?_
    change busHeld e.hist = true
    rw [hist]
    exact busHeld_append (inv.held free (.inl tst)) (by simp)
  | settled ms e tst free _ hist =>
    refine fun _ => .inl ?_
    change busHeld e.hist = true
    rw [hist]
    exact busHeld_append (inv.held free (.inr (.inl tst))) (by simp)
  | response | again | nextPage => exact State.busInv_of_released (by simp) (by simp) (by simp)
  | hangs e es tst free _ hist bus =>
    intro attempt
    obtain noEnd | last := bus
    · refine .inl ?_
      change busHeld e.hist = true
      rw [hist]
      exact busHeld_append (inv.held free attempt) noEnd
    · refine .inr ⟨rfl, ?_⟩
      change e.hist.getLast? = _
      rw [hist, List.getLast?_append, last]
      rfl
  | fails c x e =>
    have failed := (State.raiseAttempt_attemptFailed { s with tpd.xbuf := x, env := e } c).1
    obtain ⟨-, -, -, gap, -⟩ | ⟨-, idle, -⟩ := failed.ends
    · exact State.busInv_of_released (by simp [gap]) (by simp [gap]) (by simp [gap])
    · exact State.busInv_of_idle idle
  | succeeds | loopEnds => exact State.busInv_of_idle rfl

end

/-- Settles O53. -/
theorem busHeldDuringAttempt : Obligations.BusHeldDuringAttempt := by
  unfold Obligations.BusHeldDuringAttempt
  intro s t inv next
  cases move_of_step next with
  | host move =>
    cases move with
    | access _ _ _ e _ _ hist =>
      rw [State.busInv] at inv ⊢
      change _ → busHeld e.hist = true ∨ _ ∧ e.hist.getLast? = _
      rw [hist]
      exact inv
    | accepted _ _ _ _ _ begun =>
      cases begun with
      | tries | pages => exact State.busInv_of_released (by simp) (by simp) (by simp)
      | decodes => exact inv
      | clears | appends | refuses => exact State.busInv_of_idle rfl
    | dropped | releases => exact inv
    | resets => exact State.busInv_of_idle rfl
  | decoder _ _ _ tst move =>
    obtain ⟨-, tpd, -⟩ := move.frame tst
    exact State.busInv_of_idle (by rw [tpd]; exact tst)
  | transactor _ _ _ _ move => exact move.busInv inv

end Sys2Proof.Machine
end

section
/-! No step faults or refuses where the invariants hold (R236); obligation O55. -/

namespace Sys2Proof.Machine

/-- The outcome is a next state. -/
def GoesOn (o : Outcome) : Prop := ∃ t, o = .next t

theorem goesOn_next (t : State) : GoesOn (.next t) := ⟨t, rfl⟩

theorem goesOn_ite {p : Prop} [Decidable p] {o₁ o₂ : Outcome} (yes : GoesOn o₁) (no : GoesOn o₂) :
    GoesOn (if p then o₁ else o₂) := by
  split
  · exact yes
  · exact no

/-! ## The bytes below `TB_LEN` hold values (R31) -/

theorem Memory.read_isSome_of_mem {cells : List Host.Cell} {a : Nat} (listed : a ∈ cells.map Prod.fst) :
    (Memory.read cells a).isSome = true := by
  induction cells with
  | nil => simp at listed
  | cons c rest ih =>
    obtain ⟨k, v⟩ := c
    rw [Memory.read]
    split
    case isTrue => rfl
    case isFalse apart =>
      refine ih ?_
      rw [List.map_cons, List.mem_cons] at listed
      exact listed.resolve_left fun same => apart same.symm

theorem TagBuffer.filled.read_isSome {tb : TagBuffer} (filled : tb.filled) {a : Nat} (below : a < tb.len.toNat) :
    (Memory.read tb.cells a).isSome = true :=
  Memory.read_isSome_of_mem (by rw [filled]; exact List.mem_range.mpr below)

/-! ## The elements (R90 to R109) -/

section
variable {s : State}

theorem execRecText_goesOn (valued : s.valuedBelowCe) : GoesOn (execRecText s) := by
  rw [execRecText_eq]
  refine goesOn_ite (goesOn_next _) ?_
  obtain ⟨-, cut⟩ | ⟨fits, ⟨bs, -, taken⟩ | ⟨noByte, -⟩⟩ := s.pastId.take_cases 1
  · rw [cut]
    exact goesOn_next _
  · rw [taken]
    exact goesOn_next _
  · obtain ⟨bs, byte⟩ := Memory.readRange_isSome s.pastId.tb.cells 1 s.pastId.ndd.idx.toNat fun i inside =>
      valued _ (show s.pastId.ndd.idx.toNat + i < s.pastId.ndd.ce.toNat by omega)
    rw [noByte] at byte
    cases byte

/-- Only a Text record's language length is read while an element runs. -/
theorem exec_goesOn (i : Instr) (valued : i = .recText → s.valuedBelowCe) : GoesOn (exec i s) := by
  cases i with
  | recText => exact execRecText_goesOn (valued rfl)
  | tlvNdef | tlvTerminator | tlvOpaque => exact goesOn_ite (goesOn_next _) (goesOn_next _)
  | resp f =>
    by_cases accepted : frameCause f s.ovh = .none
    · obtain ⟨-, found⟩ | ⟨-, -, found⟩ | ⟨status, long, -⟩ := frameCause_cases f s.ovh
      · simp [found] at accepted
      · simp [found] at accepted
      · exact ⟨_, exec_resp_accepted s f status long⟩
    · exact ⟨_, exec_resp_refused s f accepted⟩
  | sel | selr | rdp | rdpr | rdt | rdtr | dec | tbclr | tbapp | undefinedOp =>
    exact goesOn_ite (goesOn_next _) (goesOn_next _)
  | selectTag | readPage | tlvNull | lenShort | lenExt | recSr | recSrIl | recLong | recLongIl | recOther | tbload
  | readid | dump | readtext => exact goesOn_next _

/-- Bytes that do not decode end a scan, in the decoder's formats. -/
theorem refusedElement_goesOn {f : Format} (decoderFormat : f ∈ [.tlv, .tlvLen, .ndefRec, .recClass]) :
    GoesOn (refusedElement f s) := by
  simp only [List.mem_cons, List.not_mem_nil, or_false] at decoderFormat
  obtain rfl | rfl | rfl | rfl := decoderFormat <;> exact goesOn_next _

/-! ## The decoder unit (R176 to R203) -/

theorem run_element_goesOn {f : Format} (bs : List Byte) (valued : s.valuedBelowCe)
    (decoderFormat : f ∈ [.tlv, .tlvLen, .ndefRec, .recClass]) : GoesOn (Fetched.element f bs s).run := by
  cases decoded : decode f bs with
  | ok i =>
    rw [Fetched.run_element s decoded]
    exact exec_goesOn i fun _ => valued
  | refused e =>
    rw [Fetched.run_refused s decoded]
    exact refusedElement_goesOn decoderFormat

theorem State.fetchWindow_goesOn {f : Format} (n : Nat) (valued : s.valuedBelowCe)
    (decoderFormat : f ∈ [.tlv, .tlvLen, .ndefRec, .recClass]) : GoesOn (s.fetchWindow f n).run := by
  obtain ⟨bs, window⟩ := State.window_isSome valued n
  rw [State.fetchWindow_some window]
  exact run_element_goesOn bs valued decoderFormat

theorem State.fetchDecoder_goesOn (valued : s.ndd.dst ≠ .idle → s.valuedBelowCe) : GoesOn s.fetchDecoder.run := by
  cases dst : s.ndd.dst with
  | idle =>
    rw [State.fetchDecoder_idle dst]
    exact goesOn_next _
  | readType =>
    by_cases below : s.ndd.idx.toNat < s.ndd.ce.toNat
    · rw [State.fetchDecoder_readType dst below]
      exact State.fetchWindow_goesOn 1 (valued (by simp [dst])) (by simp)
    · rw [State.fetchDecoder_endOfBuffer dst (by omega)]
      exact goesOn_next _
  | readLength =>
    rw [State.fetchDecoder_readLength dst]
    exact State.fetchWindow_goesOn 3 (valued (by simp [dst])) (by simp)
  | dispatch =>
    rw [State.run_dispatch dst]
    exact exec_goesOn _ fun _ => valued (by simp [dst])
  | record =>
    have valued := valued (by simp [dst])
    cases inBody : s.ndd.inBody with
    | true =>
      obtain ⟨bs, window⟩ := State.window_isSome valued 1
      rw [State.fetchDecoder_body dst inBody, State.fetchClass_some window]
      exact run_element_goesOn _ valued (by simp)
    | false =>
      by_cases begins : s.ndd.idx.toNat < s.ndd.msgend.toNat ∧ s.ndd.idx.toNat < s.ndd.ce.toNat
      · obtain ⟨inMessage, below⟩ := begins
        rw [State.fetchDecoder_header dst inBody inMessage below]
        exact State.fetchWindow_goesOn 7 valued (by simp)
      · rw [State.fetchDecoder_messageEnd dst inBody (by omega)]
        exact goesOn_next _
  | done =>
    rw [State.fetchDecoder_done dst]
    exact goesOn_next _

/-! ## The running engine and the host (R39, R41, R112, R250) -/

theorem State.fetchEngine_goesOn (valued : s.ndd.dst ≠ .idle → s.valuedBelowCe) : GoesOn s.fetchEngine.run := by
  cases busy : s.hif.busy with
  | false =>
    rw [State.fetchEngine_free busy]
    exact goesOn_next _
  | true =>
    cases tst : s.tpd.tst with
    | idle =>
      rw [State.fetchEngine_tpdIdle busy tst]
      exact State.fetchDecoder_goesOn valued
    | build =>
      rw [State.run_build busy tst, exec_command]
      exact goesOn_next _
    | write => exact ⟨_, State.run_write busy tst⟩
    | settle => exact ⟨_, State.run_settle busy tst⟩
    | read => exact ⟨_, State.run_read busy tst⟩
    | check =>
      rw [State.run_check busy tst]
      exact exec_goesOn _ nofun
    | gap => exact ⟨_, State.run_gap busy tst⟩

theorem State.readTbd_goesOn (filled : s.tb.filled) : GoesOn s.readTbd := by
  unfold State.readTbd
  dsimp only
  split
  case isTrue => exact goesOn_next _
  case isFalse inside =>
    obtain ⟨v, valued⟩ := Option.isSome_iff_exists.mp (filled.read_isSome (a := s.hif.tba.toNat) (by omega))
    rw [valued]
    exact goesOn_next _

theorem State.hostRead_goesOn (a : Byte) (filled : s.tb.filled) : GoesOn (s.hostRead a) :=
  goesOn_ite (State.readTbd_goesOn filled) (goesOn_ite (goesOn_next _) (goesOn_next _))

theorem State.fetchRequest_goesOn (v : Byte) : GoesOn (s.fetchRequest v).run := by
  refine exec_goesOn _ fun isText => ?_
  have format := decodeHostReq_format v s.hif.arg
  rw [isText] at format
  cases format

theorem State.issueRequest_goesOn (w : BitVec 16) : GoesOn (s.issueRequest w).run := by
  unfold State.issueRequest
  split
  · exact State.fetchRequest_goesOn _
  · exact State.fetchRequest_goesOn _

theorem State.fetchInReset_goesOn : GoesOn s.fetchInReset.run := by
  unfold State.fetchInReset
  split <;> exact goesOn_next _

end

/-- Settles O55: the TagBuffer's form values every byte the block reads, and only bytes read could fault. -/
theorem nothingStopsTheBlock : Obligations.NothingStopsTheBlock := by
  unfold Obligations.NothingStopsTheBlock
  intro s tagBuffer _ cursor
  change GoesOn (step s)
  obtain ⟨filled, -, -⟩ := tagBuffer
  obtain ⟨-, running, -⟩ := cursor
  have valued (dst : s.ndd.dst ≠ .idle) : s.valuedBelowCe := fun a below =>
    TagBuffer.filled.read_isSome filled (by rwa [← running dst])
  cases rst : s.env.rst with
  | true =>
    rw [step_held rst]
    exact State.fetchInReset_goesOn
  | false =>
    cases script : s.env.script with
    | nil =>
      rw [step_of_nil rst script]
      exact State.fetchEngine_goesOn valued
    | cons access rest =>
      cases access with
      | pause =>
        rw [step_of_pause rst script]
        exact State.fetchEngine_goesOn valued
      | rst b => exact ⟨_, step_of_rst script⟩
      | read a =>
        rw [step_of_read rst script]
        exact State.hostRead_goesOn a filled
      | write a v =>
        by_cases isOp : a = 0x00
        · subst isOp
          rw [step_of_writeOp rst script]
          exact State.fetchRequest_goesOn (s := { s with env.script := rest }) v
        · exact ⟨_, step_of_write rst script isOp⟩
      | request w =>
        cases busy : s.hif.busy with
        | true =>
          rw [step_of_request_busy rst script busy]
          exact State.fetchEngine_goesOn valued
        | false =>
          rw [step_of_request_idle rst script busy]
          exact State.issueRequest_goesOn w

end Sys2Proof.Machine
end

section
/-! Runs of several steps, the TagBuffer's bytes as a list, and `TBLOAD` (R31, R113, R162, R163); obligation O17. -/

namespace Sys2Proof.Machine

/-! ## Runs -/

section
variable {s t u : State}

/-- A run behind a run. -/
theorem run_add {n : Nat} (m : Nat) (first : Host.Core.run Sys2Proof.core n s = .next t) :
    Host.Core.run Sys2Proof.core (n + m) s = Host.Core.run Sys2Proof.core m t := by
  induction n generalizing s with
  | zero =>
    cases first
    rw [Nat.zero_add]
  | succ n ih =>
    cases next : step s with
    | next v =>
      rw [run_succ n next] at first
      rw [Nat.add_right_comm, run_succ _ next]
      exact ih first
    | fault r =>
      have coreFault : Sys2Proof.core.step s = .fault r := next
      simp [Host.Core.run, coreFault] at first
    | refused r =>
      have coreRefused : Sys2Proof.core.step s = .refused r := next
      simp [Host.Core.run, coreRefused] at first

theorem Reaches.refl (s : State) : Reaches s s := ⟨0, rfl⟩

theorem Reaches.of_step (next : step s = .next t) : Reaches s t := ⟨1, run_succ 0 next⟩

theorem Reaches.trans (first : Reaches s t) (second : Reaches t u) : Reaches s u := by
  obtain ⟨n, first⟩ := first
  obtain ⟨m, second⟩ := second
  exact ⟨n + m, (run_add m first).trans second⟩

theorem Reaches.head (next : step s = .next t) (rest : Reaches t u) : Reaches s u := (Reaches.of_step next).trans rest

end

/-! ## The TagBuffer's bytes (R31) -/

/-- The bytes of a range, one by one. -/
theorem Memory.readRange_eq_some_iff {cells : List Host.Cell} {n a : Nat} {bs : List Byte} :
    Memory.readRange cells a n = some bs ↔ bs.length = n ∧ ∀ i, i < n → Memory.read cells (a + i) = bs[i]? := by
  refine ⟨fun range => ⟨Memory.readRange_length _ _ _ _ range, Memory.readRange_get _ _ _ _ range⟩,
    fun ⟨length, bytes⟩ => ?_⟩
  obtain ⟨bs', range⟩ := Memory.readRange_isSome cells n a fun i inside => by
    rw [bytes i inside, List.getElem?_eq_getElem (length ▸ inside)]
    rfl
  have length' := Memory.readRange_length _ _ _ _ range
  have same : bs' = bs := List.ext_getElem? fun i => by
    by_cases inside : i < n
    · rw [← bytes i inside, Memory.readRange_get _ _ _ _ range i inside]
    · rw [List.getElem?_eq_none (by omega), List.getElem?_eq_none (by omega)]
  rw [range, same]

/-- The TagBuffer's bytes are those at the indices below `TB_LEN`. -/
theorem State.tbBytes_eq_some_iff {s : State} {bs : List Byte} : s.tbBytes = some bs ↔
    bs.length = s.tb.len.toNat ∧ ∀ i, i < s.tb.len.toNat → Memory.read s.tb.cells i = bs[i]? := by
  rw [State.tbBytes, Memory.readRange_eq_some_iff]
  simp only [Nat.zero_add]

theorem State.tbBytes_tbClear (s : State) : s.tbClear.tbBytes = some [] := rfl

/-- What is appended below the capacity stands behind the bytes before it (R160, R163). -/
theorem State.tbBytes_tbAppend {s : State} {xs : List Byte} (bs : List Byte) (bytes : s.tbBytes = some xs)
    (room : s.tb.len.toNat + bs.length ≤ s.par.cap.toNat) : (s.tbAppend bs).tbBytes = some (xs ++ bs) := by
  obtain ⟨length, before⟩ := State.tbBytes_eq_some_iff.mp bytes
  have len := State.tbAppend_len_toNat bs s room
  rw [State.tbBytes_eq_some_iff, len, List.length_append, length]
  refine ⟨rfl, fun i inside => ?_⟩
  rw [State.read_tbAppend bs s room]
  by_cases behind : s.tb.len.toNat ≤ i
  · rw [if_pos ⟨behind, inside⟩, List.getElem?_append_right (by omega), length]
  · rw [if_neg (by omega), List.getElem?_append_left (by omega)]
    exact before i (by omega)

theorem State.tbBytes_tbPush {s : State} {xs : List Byte} (b : Byte) (bytes : s.tbBytes = some xs)
    (room : s.tb.len.toNat < s.par.cap.toNat) : (s.tbPush b).tbBytes = some (xs ++ [b]) :=
  State.tbBytes_tbAppend [b] bytes room

/-! ## `TBLOAD`, request by request (R112, R113) -/

/-- The block is idle and out of reset, and these host accesses are to come. -/
def State.waitsFor (s : State) (rest : List HostEvent) : Prop :=
  s.hif.busy = false ∧ s.tpd.tst = .idle ∧ s.ndd.dst = .idle ∧ s.tpd.stuck = false ∧ s.env.rst = false ∧
    s.env.script = rest

/-- What a `TBLOAD` leaves as it was. -/
def State.keptByLoad (s t : State) : Prop :=
  t.env.hist = s.env.hist ∧ t.ndd = s.ndd ∧ t.tpd = s.tpd ∧ t.par = s.par ∧ t.hif.tba = s.hif.tba ∧
    t.hif.ovr = s.hif.ovr ∧ t.hif.badtxt = s.hif.badtxt

theorem State.keptByLoad.refl (s : State) : s.keptByLoad s := ⟨rfl, rfl, rfl, rfl, rfl, rfl, rfl⟩

theorem State.keptByLoad.trans {s t u : State} (first : s.keptByLoad t) (second : t.keptByLoad u) : s.keptByLoad u := by
  obtain ⟨hist, ndd, tpd, par, tba, ovr, badtxt⟩ := first
  obtain ⟨hist', ndd', tpd', par', tba', ovr', badtxt'⟩ := second
  exact ⟨hist'.trans hist, ndd'.trans ndd, tpd'.trans tpd, par'.trans par, tba'.trans tba, ovr'.trans ovr,
    badtxt'.trans badtxt⟩

/-- The request word of a `TBAPP` is its code and its byte (R112). -/
theorem highByte_append (op b : Byte) : highByte (op ++ b) = op :=
  BitVec.eq_of_toNat_eq (by rw [highByte_toNat, toNat_append_byte]; have := b.isLt; omega)

theorem lowByte_append (op b : Byte) : lowByte (op ++ b) = b :=
  BitVec.eq_of_toNat_eq (by rw [lowByte_toNat, toNat_append_byte]; have := b.isLt; omega)

section
variable {s : State} {rest : List HostEvent}

/-- The `TBCLR` of a host program, met on an idle block. -/
theorem step_request_tbclr (waits : s.waitsFor (.request 0x4000 :: rest)) : ∃ t, step s = .next t ∧
    t.waitsFor rest ∧ t.tbBytes = some [] ∧ t.hif.res = .ok ∧ s.keptByLoad t := by
  obtain ⟨free, tst, dst, stuck, released, script⟩ := waits
  have runs : step s = exec .tbclr { s with env.script := rest } := step_of_request_idle released script free
  rw [exec_tbclr (by exact free),
    State.endWith_of_idle _ .ok .none (by exact tst) (by exact dst)] at runs
  exact ⟨_, runs, ⟨rfl, tst, dst, stuck, released, rfl⟩, rfl, rfl, State.keptByLoad.refl s⟩

/-- A `TBAPP` of a host program, met on an idle block with room. -/
theorem step_request_tbapp {b : Byte} {xs : List Byte}
    (waits : s.waitsFor (.request ((0x41 : BitVec 8) ++ b) :: rest)) (bytes : s.tbBytes = some xs)
    (room : xs.length < s.par.cap.toNat) : ∃ t, step s = .next t ∧
      t.waitsFor rest ∧ t.tbBytes = some (xs ++ [b]) ∧ t.hif.res = .ok ∧ s.keptByLoad t := by
  obtain ⟨free, tst, dst, stuck, released, script⟩ := waits
  obtain ⟨length, -⟩ := State.tbBytes_eq_some_iff.mp bytes
  rw [length] at room
  have runs : step s = exec (.tbapp b) { s with hif.arg := b, env.script := rest } := by
    rw [step_of_request_idle released script free, State.issueRequest, highByte_append, lowByte_append]
    rfl
  rw [exec_tbapp_room b (by exact free) (by exact room),
    State.endWith_of_idle _ .ok .none (by exact tst) (by exact dst)] at runs
  exact ⟨_, runs, ⟨rfl, tst, dst, stuck, released, rfl⟩, State.tbBytes_tbPush b bytes room, rfl,
    State.keptByLoad.refl s⟩

end

/-- A row of `TBAPP`s that fit, one for each byte. -/
theorem reaches_tbapps (bs xs : List Byte) (s : State)
    (waits : s.waitsFor (bs.map fun b => .request ((0x41 : BitVec 8) ++ b))) (bytes : s.tbBytes = some xs)
    (room : xs.length + bs.length ≤ s.par.cap.toNat) (ok : s.hif.res = .ok) : ∃ u, Reaches s u ∧
      u.waitsFor [] ∧ u.tbBytes = some (xs ++ bs) ∧ u.hif.res = .ok ∧ s.keptByLoad u := by
  induction bs generalizing s xs with
  | nil => exact ⟨s, .refl s, waits, by rwa [List.append_nil], ok, .refl s⟩
  | cons b bs ih =>
    rw [List.length_cons] at room
    obtain ⟨t, next, waits', bytes', ok', kept⟩ := step_request_tbapp waits bytes (by omega)
    obtain ⟨-, -, -, par, -⟩ := id kept
    obtain ⟨u, reaches, waits'', bytes'', ok'', kept'⟩ := ih (xs ++ [b]) t waits' bytes'
      (by rw [List.length_append, par, List.length_singleton]; omega) ok'
    exact ⟨u, .head next reaches, waits'', by rwa [List.append_assoc] at bytes'', ok'', kept.trans kept'⟩

/-- Settles O17: the `TBCLR`, then a `TBAPP` for each byte. -/
theorem tbloadLoadsItsBytes : Obligations.TbloadLoadsItsBytes := by
  unfold Obligations.TbloadLoadsItsBytes
  intro bs s quiet fits
  obtain ⟨free, tst, dst, stuck, released, script⟩ := quiet
  have loads := exec_tbload bs s
  rw [script, List.append_nil] at loads
  obtain ⟨t, next, waits, bytes, ok, kept⟩ := step_request_tbclr
    (s := { s with env.script := .request 0x4000 :: bs.map fun b => .request ((0x41 : BitVec 8) ++ b) })
    ⟨free, tst, dst, stuck, released, rfl⟩
  obtain ⟨-, -, -, par, -⟩ := id kept
  obtain ⟨u, reaches, waits', bytes', ok', kept'⟩ := reaches_tbapps bs [] t waits bytes
    (by rw [par, List.length_nil, Nat.zero_add]; exact fits) ok
  exact ⟨_, u, loads, .head next reaches, waits', bytes', ok', kept.trans kept'⟩

end Sys2Proof.Machine
end

section
/-! The attempts of a select or a page read as runs (R131 to R137): one attempt, the tries up to the last one, and the
whole operations; obligations O29 and O30. -/

namespace Sys2Proof.Machine

/-! ## What the attempts leave as it was -/

/-- From `s` to `t` the host's registers but `RES`, `CAUSE`, `BUSY` and `DONE`, the TagBuffer, the decoder unit, the
page asked for and the other family's results are the same. -/
def State.keptByTries (s t : State) : Prop :=
  (t.hif.op = s.hif.op ∧ t.hif.arg = s.hif.arg ∧ t.hif.badtxt = s.hif.badtxt ∧ t.hif.ovr = s.hif.ovr ∧
    t.hif.tba = s.hif.tba) ∧
  (t.tb = s.tb ∧ t.ndd = s.ndd ∧ t.par = s.par ∧ t.tpd.reqPage = s.tpd.reqPage) ∧
  (s.selecting = true → t.tpd.page = s.tpd.page ∧ t.tpd.pdata = s.tpd.pdata ∧ t.tpd.plen = s.tpd.plen) ∧
  (s.selecting = false → t.tpd.tagid = s.tpd.tagid ∧ t.tpd.idlen = s.tpd.idlen ∧ t.tpd.tagtype = s.tpd.tagtype)

/-- The environment behind moves that took the bus so many times. -/
def Env.movedTo (e e' : Env) (begins : Nat) : Prop :=
  e'.rst = e.rst ∧ e'.script = e.script ∧ e'.returns <:+ e.returns ∧
    e'.hist.count .busBegin = e.hist.count .busBegin + begins

theorem Env.movedTo.trans {e e' e'' : Env} {m n : Nat} (first : e.movedTo e' m) (second : e'.movedTo e'' n) :
    e.movedTo e'' (m + n) := by
  obtain ⟨rst, script, returns, hist⟩ := first
  obtain ⟨rst', script', returns', hist'⟩ := second
  exact ⟨rst'.trans rst, script'.trans script, returns'.trans returns, by omega⟩

section
variable {s t u : State}

/-- The operation tells the unit's tests. -/
theorem State.tests_of_op (op : t.hif.op = s.hif.op) : t.selecting = s.selecting ∧ t.looping = s.looping ∧
    t.hif.retry = s.hif.retry ∧ t.ovh = s.ovh ∧ t.maxTries = s.maxTries := by
  simp [State.ovh, State.maxTries, State.selecting, State.looping, HostRegs.fn, HostRegs.retry, op]

theorem State.keptByTries.tests (kept : s.keptByTries t) : t.selecting = s.selecting ∧ t.looping = s.looping ∧
    t.hif.retry = s.hif.retry ∧ t.ovh = s.ovh ∧ t.maxTries = s.maxTries := by
  obtain ⟨⟨op, -⟩, -⟩ := kept
  exact State.tests_of_op op

theorem State.keptByTries.trans (first : s.keptByTries t) (second : t.keptByTries u) : s.keptByTries u := by
  obtain ⟨selects, -⟩ := first.tests
  obtain ⟨⟨op, arg, badtxt, ovr, tba⟩, ⟨tb, ndd, par, reqPage⟩, select, read⟩ := first
  obtain ⟨⟨op', arg', badtxt', ovr', tba'⟩, ⟨tb', ndd', par', reqPage'⟩, select', read'⟩ := second
  refine ⟨⟨op'.trans op, arg'.trans arg, badtxt'.trans badtxt, ovr'.trans ovr, tba'.trans tba⟩,
    ⟨tb'.trans tb, ndd'.trans ndd, par'.trans par, reqPage'.trans reqPage⟩, fun selecting => ?_, fun reading => ?_⟩
  · obtain ⟨page, pdata, plen⟩ := select selecting
    obtain ⟨page', pdata', plen'⟩ := select' (selects.trans selecting)
    exact ⟨page'.trans page, pdata'.trans pdata, plen'.trans plen⟩
  · obtain ⟨tagid, idlen, tagtype⟩ := read reading
    obtain ⟨tagid', idlen', tagtype'⟩ := read' (selects.trans reading)
    exact ⟨tagid'.trans tagid, idlen'.trans idlen, tagtype'.trans tagtype⟩

/-- A failed attempt zeroes only its own family's results. -/
theorem attemptFailed.kept {c : Cause} (failed : attemptFailed s t c) (dst : t.ndd.dst = s.ndd.dst) :
    s.keptByTries t := by
  obtain ⟨⟨-, op, arg, badtxt, ovr, tba⟩, ⟨tb, par, ndd⟩, ⟨-, page, -, reqPage, -⟩, results, -⟩ := failed
  have sameNdd : t.ndd = s.ndd := by rw [← ndd, ← dst]
  refine ⟨⟨op, arg, badtxt, ovr, tba⟩, ⟨tb, sameNdd, par, reqPage⟩, fun selecting => ?_, fun reading => ?_⟩
  · rw [if_pos selecting] at results
    obtain ⟨-, -, -, pdata, plen⟩ := results
    exact ⟨page, pdata, plen⟩
  · rw [if_neg (by simp [reading])] at results
    obtain ⟨-, -, tagid, idlen, tagtype⟩ := results
    exact ⟨tagid, idlen, tagtype⟩

/-- Where all primitives return, those to come do. -/
theorem State.busReturns.of_suffix (returns : s.busReturns) (suffix : t.env.returns <:+ s.env.returns) :
    t.busReturns :=
  fun b coming => returns b (suffix.subset coming)

theorem State.busReturns.take (returns : s.busReturns) (n : Nat) : false ∉ s.env.returns.take n := fun hangs =>
  absurd (returns false (List.mem_of_mem_take hangs)) (by decide)

theorem State.busReturns.head (returns : s.busReturns) : s.env.returns.head? ≠ some false := fun hangs =>
  absurd (returns false (List.mem_of_mem_head? hangs)) (by decide)

end

/-! ## One attempt (R131) -/

/-- The state behind an attempt, with this frame in `XBUF`, before its outcome is acted on. -/
def State.attempted (s : State) (x : Frame) (d : Tst) (e : Env) : State := { s with
  tpd.page := if s.selecting then s.tpd.page else s.tpd.reqPage, tpd.xbuf := x,
  tpd.attempts := s.tpd.attempts + 1, tpd.tst := d, env := e }

theorem State.attempted_kept (s : State) (x : Frame) (d : Tst) (e : Env) : s.keptByTries (s.attempted x d e) :=
  ⟨⟨rfl, rfl, rfl, rfl, rfl⟩, ⟨rfl, rfl, rfl, rfl⟩, fun selecting => ⟨if_pos selecting, rfl, rfl⟩,
    fun _ => ⟨rfl, rfl, rfl⟩⟩

/-- A response that is to be accepted waits in `XBUF`. -/
def State.accepting (u : State) (frame : Option Frame) : Prop :=
  frame = some u.tpd.xbuf ∧ u.tpd.tst = .check ∧ u.tpd.xbuf.b2 = 0 ∧ u.ovh < u.tpd.xbuf.b0.toNat

/-- `u` is `s` behind attempts that came to `r`, before the last one's outcome is acted on. -/
def State.behindTries (s u : State) (r : TryResult) : Prop :=
  s.keptByTries u ∧ u.hif.busy = true ∧ u.tpd.stuck = false ∧
    u.tpd.attempts.toNat = s.tpd.attempts.toNat + r.made ∧
    (s.selecting = false → u.tpd.page = s.tpd.reqPage) ∧ s.env.movedTo u.env r.made ∧ u.env.writes = r.writes ∧
    u.env.reads = r.reads ∧ (r.cause = .none → u.accepting r.frame)

/-- An attempt's outcome acted on: a response is to be accepted, a failed attempt raises its cause. -/
def State.judged (u : State) (c : Cause) : State := if c = .none then u else u.raiseAttempt c

theorem attemptOf_cases {ovh : Nat} {ws : List WriteAnswer} {rs : List ReadAnswer} {r : TryResult}
    (result : attemptOf ovh ws rs = some r) :
    (∃ ws', ws = .err :: ws' ∧ r = ⟨1, .busWrite, none, ws', rs⟩) ∨
      (∃ ws' rs', ws = .ok :: ws' ∧ rs = .err :: rs' ∧ r = ⟨1, .busRead, none, ws', rs'⟩) ∨
      (∃ f ws' rs', ws = .ok :: ws' ∧ rs = .bytes f :: rs' ∧ r = ⟨1, frameCause f ovh, some f, ws', rs'⟩) := by
  match ws, rs, result with
  | .err :: ws', rs, rfl => exact .inl ⟨ws', rfl, rfl⟩
  | .ok :: ws', .err :: rs', rfl => exact .inr (.inl ⟨ws', rs', rfl, rfl, rfl⟩)
  | .ok :: ws', .bytes f :: rs', rfl => exact .inr (.inr ⟨f, ws', rs', rfl, rfl, rfl⟩)

/-- A failed write whose `BusEnd` returns (R221). -/
theorem step_write_failed {s : State} {ws : List WriteAnswer} (h : s.transacting .write)
    (answer : s.env.writes = .err :: ws) (returns : s.env.returns.head? ≠ some false) :
    step s = .next (State.raiseAttempt { s with
      env.writes := ws, env.returns := s.env.returns.tail,
      env.hist := s.env.hist ++ [.writeAnswer .err] ++ [.busEnd] } .busWrite) := by
  obtain ⟨-, -, free, -, -⟩ := id h
  exact (step_write_err h answer).trans (congrArg _ (State.perform_returned
    (s := { s with env.writes := ws, env.hist := s.env.hist ++ [.writeAnswer .err] }) free _ _ returns))

/-- A failed read whose `BusEnd` returns (R222). -/
theorem step_read_failed {s : State} {rs : List ReadAnswer} (h : s.transacting .read)
    (answer : s.env.reads = .err :: rs) (returns : s.env.returns.head? ≠ some false) :
    step s = .next (State.raiseAttempt { s with
      tpd.xbuf := drawFrame s.env.draws, env.reads := rs, env.returns := s.env.returns.tail,
      env.hist := s.env.hist ++ [.readAnswer .err] ++ [.busEnd], env.draws := s.env.draws + 11 } .busRead) := by
  obtain ⟨-, -, free, -, -⟩ := id h
  exact (step_read_err h answer).trans (congrArg _ (State.perform_returned
    (s := { s with env.reads := rs, env.hist := s.env.hist ++ [.readAnswer .err] }) free _ _ returns))

section
variable {s : State} {r : TryResult} (h : s.transacting .build)
include h

/-- One more attempt counted, its state is behind it whatever it came to. -/
theorem State.attempted_behindTries {x : Frame} {d : Tst} {e : Env} (one : r.made = 1)
    (count : s.tpd.attempts.toNat < 15) (env : s.env.movedTo e 1) (writes : e.writes = r.writes)
    (reads : e.reads = r.reads) (accepting : r.cause = .none → (s.attempted x d e).accepting r.frame) :
    s.behindTries (s.attempted x d e) r := by
  obtain ⟨busy, -, free, -, -⟩ := h
  refine ⟨s.attempted_kept x d e, busy, free, ?_, fun reading => if_neg (by simp [reading]), ?_, writes, reads,
    accepting⟩
  · rw [one]
    exact BitVec.toNat_add_of_lt (show s.tpd.attempts.toNat + 1 < 2 ^ 4 by omega)
  · rw [one]
    exact env

variable (returns : s.busReturns)
include returns

/-- A failed write: two moves. -/
theorem reaches_writeFailed {ws : List WriteAnswer} (write : s.env.writes = .err :: ws) :
    ∃ x e, s.env.movedTo e 1 ∧ e.writes = ws ∧ e.reads = s.env.reads ∧
      Reaches s ((s.attempted x .write e).raiseAttempt .busWrite) := by
  obtain ⟨busy, -, free, released, script⟩ := id h
  have sent : s.commandSent.transacting .write := ⟨busy, rfl, free, released, script⟩
  have third : s.commandSent.env.returns.head? ≠ some false := head?_drop_ne_false (returns.take 3) (by omega)
  have failed := step_write_failed sent write third
  refine ⟨s.commandImage, { s.commandSent.env with
    writes := ws, returns := s.commandSent.env.returns.tail,
    hist := s.commandSent.env.hist ++ [.writeAnswer .err] ++ [.busEnd] }, ?_, rfl, rfl,
    .head (step_build h (returns.take 2)) (.of_step failed)⟩
  exact ⟨rfl, rfl, (List.tail_suffix _).trans (List.drop_suffix _ _), by simp [State.commandSent]⟩

/-- A failed read: four moves. -/
theorem reaches_readFailed {ws : List WriteAnswer} {rs : List ReadAnswer} (write : s.env.writes = .ok :: ws)
    (read : s.env.reads = .err :: rs) :
    ∃ x e, s.env.movedTo e 1 ∧ e.writes = ws ∧ e.reads = rs ∧
      Reaches s ((s.attempted x .read e).raiseAttempt .busRead) := by
  obtain ⟨issued, reading⟩ := run_to_readIssued 1 h write (returns.take 3)
  have fourth : (s.readIssued ws).env.returns.head? ≠ some false := head?_drop_ne_false (returns.take 4) (by omega)
  have failed := step_read_failed reading read fourth
  refine ⟨drawFrame s.env.draws, { (s.readIssued ws).env with
    reads := rs, returns := (s.readIssued ws).env.returns.tail,
    hist := (s.readIssued ws).env.hist ++ [.readAnswer .err] ++ [.busEnd], draws := s.env.draws + 11 }, ?_, rfl, rfl,
    4, issued.trans (run_succ 0 failed)⟩
  exact ⟨rfl, rfl, (List.tail_suffix _).trans (List.drop_suffix _ _), by simp [State.readIssued]⟩

/-- One attempt, as its function of the module's answers tells it. -/
theorem attempt_reaches (count : s.tpd.attempts.toNat < 15)
    (result : attemptOf s.ovh s.env.writes s.env.reads = some r) :
    ∃ u, s.behindTries u r ∧ u.tpd.tryNo = s.tpd.tryNo ∧ Reaches s (u.judged r.cause) := by
  obtain ⟨ws, write, rfl⟩ | ⟨ws, rs, write, read, rfl⟩ | ⟨f, ws, rs, write, read, rfl⟩ := attemptOf_cases result
  · obtain ⟨x, e, moved, writes, reads, reaches⟩ := reaches_writeFailed h returns write
    exact ⟨_, State.attempted_behindTries h rfl count moved writes reads nofun, rfl, reaches⟩
  · obtain ⟨x, e, moved, writes, reads, reaches⟩ := reaches_readFailed h returns write read
    exact ⟨_, State.attempted_behindTries h rfl count moved writes reads nofun, rfl, reaches⟩
  · obtain ⟨runs, checking⟩ := run_to_answered 0 h write read (returns.take 4)
    have answered : Reaches s (s.answered f ws rs) := ⟨4, runs⟩
    have moved : s.env.movedTo (s.answered f ws rs).env 1 := ⟨rfl, rfl, List.drop_suffix _ _, by simp [State.answered]⟩
    refine ⟨s.attempted f .check (s.answered f ws rs).env, State.attempted_behindTries h rfl count moved rfl rfl
      fun accepted => ?_, rfl, ?_⟩
    · obtain ⟨-, cause⟩ | ⟨-, -, cause⟩ | ⟨status, long, -⟩ := frameCause_cases f s.ovh
      · simp [cause] at accepted
      · simp [cause] at accepted
      · exact ⟨rfl, rfl, status, long⟩
    · rw [State.judged]
      dsimp only
      split
      case isTrue => exact answered
      case isFalse refused =>
        exact answered.trans (.of_step ((step_check checking).trans (exec_resp_refused _ f refused)))

end

/-! ## The tries (R134, R136) -/

/-- How many tries are left behind the next one: the retrying operations count them in `TRY`. -/
def State.triesLeft (s : State) (n : Nat) : Prop :=
  if s.hif.retry = true then s.tpd.tryNo.toNat + n = s.maxTries else n = 0

/-- No further try follows a failed attempt. -/
def State.lastTry (u : State) : Prop := ¬(u.hif.retry = true ∧ u.tpd.tryNo.toNat < u.maxTries)

theorem attemptOf_made {ovh : Nat} {ws : List WriteAnswer} {rs : List ReadAnswer} {r : TryResult}
    (result : attemptOf ovh ws rs = some r) : r.made = 1 := by
  obtain ⟨-, -, rfl⟩ | ⟨-, -, -, -, rfl⟩ | ⟨-, -, -, -, -, rfl⟩ := attemptOf_cases result <;> rfl

theorem triesOf_succ_cases {ovh n : Nat} {ws : List WriteAnswer} {rs : List ReadAnswer} {r : TryResult}
    (result : triesOf ovh (n + 1) ws rs = some r) : ∃ q, attemptOf ovh ws rs = some q ∧
      ((q.cause = .none ∧ r = q) ∨
        (q.cause ≠ .none ∧ ∃ r', triesOf ovh n q.writes q.reads = some r' ∧ r = { r' with made := r'.made + 1 })) := by
  rw [triesOf] at result
  cases first : attemptOf ovh ws rs with
  | none => simp [first] at result
  | some q =>
    rw [first] at result
    dsimp only at result
    refine ⟨q, rfl, ?_⟩
    split at result
    case isTrue accepted => exact .inl ⟨accepted, (Option.some.inj result).symm⟩
    case isFalse failed =>
      obtain ⟨r', rest, rfl⟩ := Option.map_eq_some_iff.mp result
      exact .inr ⟨failed, r', rest, rfl⟩

/-- Behind a failed attempt with tries left, the gap and the next try (R134, R136). -/
theorem retry_reaches {u : State} (c : Cause) (busy : u.hif.busy = true) (free : u.tpd.stuck = false)
    (released : u.env.rst = false) (script : u.env.script = []) (returns : u.busReturns) (retry : u.hif.retry = true)
    (left : u.tpd.tryNo.toNat < u.maxTries) :
    ∃ t, Reaches (u.raiseAttempt c) t ∧ u.keptByTries t ∧ t.transacting .build ∧ t.tpd.tryNo = u.tpd.tryNo + 1 ∧
      t.tpd.attempts = u.tpd.attempts ∧ u.env.movedTo t.env 0 ∧ t.env.writes = u.env.writes ∧
      t.env.reads = u.env.reads := by
  obtain ⟨failed, -, env⟩ := u.raiseAttempt_attemptFailed c
  obtain ⟨attempts, tryNo, stuck⟩ := failed.counts
  obtain ⟨-, -, busy', gap, dst⟩ | ⟨-, idle, -⟩ := failed.ends
  · have waiting : (u.raiseAttempt c).transacting .gap :=
      ⟨busy'.trans busy, gap, stuck.trans free, by rw [env, released], by rw [env, script]⟩
    have returned : (u.raiseAttempt c).env.returns.head? ≠ some false := by
      rw [env]
      exact returns.head
    refine ⟨_, .of_step (retryGap _ waiting returned), (failed.kept dst).trans
      ⟨⟨rfl, rfl, rfl, rfl, rfl⟩, ⟨rfl, rfl, rfl, rfl⟩, fun _ => ⟨rfl, rfl, rfl⟩, fun _ => ⟨rfl, rfl, rfl⟩⟩,
      ⟨busy'.trans busy, rfl, stuck.trans free, by rw [env, released], by rw [env, script]⟩, ?_, attempts, ?_, ?_, ?_⟩
    · change (u.raiseAttempt c).tpd.tryNo + 1 = _
      rw [tryNo]
    · rw [env]
      exact ⟨rfl, rfl, List.tail_suffix _, by simp⟩
    · rw [env]
    · rw [env]
  · obtain ⟨-, -, again⟩ | ⟨none, -⟩ | ⟨none, -⟩ := u.raiseAttempt_cases c
    · rw [again] at idle
      cases idle
    · exact absurd ⟨retry, left⟩ none
    · exact absurd ⟨retry, left⟩ none

/-- A failed attempt, the gap and the tries behind it, counted together. -/
theorem State.behindTries.cons {s u t v : State} {q r : TryResult} (first : s.behindTries u q) (one : q.made = 1)
    (gap : u.keptByTries t) (attempts : t.tpd.attempts = u.tpd.attempts) (moved : u.env.movedTo t.env 0)
    (rest : t.behindTries v r) : s.behindTries v { r with made := r.made + 1 } := by
  obtain ⟨kept, -, -, counted, -, env, -⟩ := first
  obtain ⟨kept', busy, free, counted', page, env', writes, reads, accepting⟩ := rest
  have before := kept.trans gap
  obtain ⟨selects, -⟩ := before.tests
  obtain ⟨-, ⟨-, -, -, reqPage⟩, -⟩ := id before
  refine ⟨before.trans kept', busy, free, ?_, fun reading => ?_, ?_, writes, reads, accepting⟩
  · rw [counted', attempts, counted, one, Nat.add_assoc, Nat.add_comm 1]
  · exact (page (selects.trans reading)).trans reqPage
  · have all := (env.trans moved).trans env'
    rw [one] at all
    rwa [Nat.add_comm]

/-- The tries, as their function of the module's answers tells them, up to the last one's outcome. -/
theorem tries_reach (n : Nat) {s : State} {r : TryResult} (h : s.transacting .build) (returns : s.busReturns)
    (count : s.tpd.attempts.toNat + n < 15) (left : s.triesLeft n)
    (result : triesOf s.ovh n s.env.writes s.env.reads = some r) :
    ∃ u, s.behindTries u r ∧ (r.cause ≠ .none → u.lastTry) ∧ Reaches s (u.judged r.cause) := by
  induction n generalizing s r with
  | zero =>
    obtain ⟨u, behind, tryNo, reaches⟩ := attempt_reaches h returns (by omega) result
    refine ⟨u, behind, fun _ ⟨retry, tries⟩ => ?_, reaches⟩
    obtain ⟨-, -, retries, -, bound⟩ := behind.1.tests
    rw [State.triesLeft, if_pos (retries.symm.trans retry)] at left
    rw [tryNo, bound] at tries
    omega
  | succ n ih =>
    obtain ⟨q, first, ⟨accepted, rfl⟩ | ⟨failed, r', rest, rfl⟩⟩ := triesOf_succ_cases result
    · obtain ⟨u, behind, -, reaches⟩ := attempt_reaches h returns (by omega) first
      exact ⟨u, behind, fun failed => absurd accepted failed, reaches⟩
    · obtain ⟨u, behind, tryNo, reaches⟩ := attempt_reaches h returns (by omega) first
      rw [State.judged, if_neg failed] at reaches
      obtain ⟨-, -, -, released, script⟩ := id h
      obtain ⟨kept, busy, free, counted, -, ⟨rst, script', suffix, -⟩, writes, reads, -⟩ := id behind
      obtain ⟨-, -, retries, ovh, bound⟩ := kept.tests
      have one := attemptOf_made first
      have retry : s.hif.retry = true := by
        by_contra single
        rw [State.triesLeft, if_neg single] at left
        omega
      rw [State.triesLeft, if_pos retry] at left
      have most := s.maxTries_le
      obtain ⟨t, again, gap, building, tryNo', attempts, moved, writes', reads'⟩ := retry_reaches q.cause busy free
        (rst.trans released) (script'.trans script) (returns.of_suffix suffix) (retries.trans retry)
        (by rw [tryNo, bound]; omega)
      obtain ⟨-, -, retries', ovh', bound'⟩ := gap.tests
      obtain ⟨-, -, suffix', -⟩ := id moved
      have next : t.tpd.tryNo.toNat = s.tpd.tryNo.toNat + 1 := by
        rw [tryNo', tryNo]
        exact BitVec.toNat_add_of_lt (show s.tpd.tryNo.toNat + 1 < 2 ^ 4 by omega)
      obtain ⟨v, behind', last, reaches'⟩ := ih building ((returns.of_suffix suffix).of_suffix suffix')
        (by rw [attempts, counted, one]; omega)
        (by rw [State.triesLeft, if_pos (by rw [retries', retries, retry]), next, bound', bound]; omega)
        (by rw [ovh', ovh, writes', reads', writes, reads]; exact rest)
      exact ⟨v, behind.cons one gap attempts moved behind', last, (reaches.trans again).trans reaches'⟩

/-! ## A whole select or page read (R133 to R136) -/

/-- From the start of its tries `s` to its completion `v`, what a select and a page read have in common. -/
def State.operationEnded (s v : State) (r : TryResult) : Prop :=
  (v.quiet ∧ v.hif.done = true ∧ v.hif.op = s.hif.op ∧ v.hif.cause = r.cause) ∧
    (v.tpd.attempts.toNat = s.tpd.attempts.toNat + r.made ∧ v.env.writes = r.writes ∧ v.env.reads = r.reads ∧
      v.env.hist.count .busBegin = s.env.hist.count .busBegin + r.made) ∧
    (v.tb = s.tb ∧ v.ndd = s.ndd ∧ v.par = s.par ∧ v.hif.arg = s.hif.arg ∧ v.hif.tba = s.hif.tba ∧
      v.hif.ovr = s.hif.ovr ∧ v.hif.badtxt = s.hif.badtxt)

/-- Behind the last try only the transactor's results, `RES`, `CAUSE` and the end are written. -/
theorem State.behindTries.ended {s u : State} {r : TryResult} (behind : s.behindTries u r) (dst : s.ndd.dst = .idle)
    (released : s.env.rst = false) (script : s.env.script = []) (p : Tpd) (res : Res)
    (counts : p.attempts = u.tpd.attempts ∧ p.stuck = u.tpd.stuck) :
    s.operationEnded (State.complete { u with tpd := p, hif.res := res, hif.cause := r.cause }) r := by
  obtain ⟨⟨⟨op, arg, badtxt, ovr, tba⟩, ⟨tb, ndd, par, -⟩, -⟩, -, free, counted, -, ⟨rst, script', -, hist⟩, writes,
    reads, -⟩ := behind
  obtain ⟨attempts, stuck⟩ := counts
  have idleNdd : { u.ndd with dst := .idle } = s.ndd := by rw [ndd, ← dst]
  exact ⟨⟨⟨rfl, rfl, rfl, stuck.trans free, rst.trans released, script'.trans script⟩, rfl, op, rfl⟩,
    ⟨(congrArg BitVec.toNat attempts).trans counted, writes, reads, hist⟩, tb, idleNdd, par, arg, tba, ovr, badtxt⟩

/-- An accepted response waits in a transactor that is checking. -/
theorem State.behindTries.checking {s u : State} {r : TryResult} (behind : s.behindTries u r)
    (released : s.env.rst = false) (script : s.env.script = []) (accepted : r.cause = .none) :
    u.transacting .check := by
  obtain ⟨-, busy, free, -, -, ⟨rst, script', -⟩, -, -, accepting⟩ := behind
  obtain ⟨-, tst, -⟩ := accepting accepted
  exact ⟨busy, tst, free, rst.trans released, script'.trans script⟩

/-- A failed last try of a single operation completes it. -/
theorem State.raiseAttempt_of_lastTry {u : State} (c : Cause) (last : u.lastTry) (single : u.looping = false) :
    u.raiseAttempt c = (u.failResults c).complete := by
  obtain ⟨retry, left, -⟩ | ⟨-, looping, -⟩ | ⟨-, -, ended⟩ := u.raiseAttempt_cases c
  · exact absurd ⟨retry, left⟩ last
  · simp [single] at looping
  · exact ended

section
variable {n : Nat} {s : State} {r : TryResult} (h : s.transacting .build) (returns : s.busReturns)
  (count : s.tpd.attempts.toNat + n < 15) (left : s.triesLeft n) (dst : s.ndd.dst = .idle)
  (result : triesOf s.ovh n s.env.writes s.env.reads = some r)
include h returns count left dst result

/-- The tries of a select, to its completion (R133, R134). -/
theorem select_reaches (selecting : s.selecting = true) : ∃ v, Reaches s v ∧ s.operationEnded v r ∧
    (∀ f, r.cause = .none → r.frame = some f → v.hif.res = .ok ∧ v.tpd.xbuf = f ∧
      v.tpd.idlen.toNat = payloadCount f 3 ∧ v.tpd.tagid = payloadBytes f (payloadCount f 3) ∧
      v.tpd.tagtype = frameByte f (3 + payloadCount f 3)) ∧
    (r.cause ≠ .none → v.hif.res = .notPresent ∧ v.tpd.tagid = Seven.zero ∧ v.tpd.idlen = 0 ∧ v.tpd.tagtype = 0) ∧
    v.tpd.page = s.tpd.page ∧ v.tpd.pdata = s.tpd.pdata ∧ v.tpd.plen = s.tpd.plen := by
  obtain ⟨-, -, -, released, script⟩ := id h
  obtain ⟨u, behind, last, reaches⟩ := tries_reach n h returns count left result
  obtain ⟨kept, -, -, -, -, -, -, -, accepting⟩ := id behind
  obtain ⟨selects, -⟩ := kept.tests
  obtain ⟨-, -, select, -⟩ := kept
  have still := selects.trans selecting
  by_cases accepted : r.cause = .none
  · obtain ⟨frame, -, status, long⟩ := accepting accepted
    rw [u.ovh_of_selecting still] at long
    rw [State.judged, if_pos accepted] at reaches
    have step' := (step_check (behind.checking released script accepted)).trans
      (exec_resp_select u u.tpd.xbuf still status long)
    rw [← accepted] at step'
    refine ⟨_, reaches.trans (.of_step step'), behind.ended dst released script _ .ok ⟨rfl, rfl⟩, fun f _ found => ?_,
      fun failed => absurd accepted failed, select selecting⟩
    obtain rfl : f = u.tpd.xbuf := Option.some.inj (found.symm.trans frame)
    exact ⟨rfl, rfl, ofNat_toNat_of_le_seven (payloadCount_le _ 3), rfl, rfl⟩
  · rw [State.judged, if_neg accepted,
      State.raiseAttempt_of_lastTry _ (last accepted) (u.not_looping_of_selecting still),
      u.failResults_of_selecting _ still] at reaches
    exact ⟨_, reaches, behind.ended dst released script _ .notPresent ⟨rfl, rfl⟩, fun f good => absurd good accepted,
      fun _ => ⟨rfl, rfl, rfl, rfl⟩, select selecting⟩

/-- The tries of `RDP` or `RDPR`, to their completion (R135, R136). -/
theorem read_reaches (reading : s.selecting = false) (single : s.looping = false) :
    ∃ v, Reaches s v ∧ s.operationEnded v r ∧
    (∀ f, r.cause = .none → r.frame = some f → v.hif.res = .ok ∧ v.tpd.xbuf = f ∧
      v.tpd.plen.toNat = payloadCount f 2 ∧ v.tpd.pdata = payloadBytes f (payloadCount f 2)) ∧
    (r.cause ≠ .none → v.hif.res = .noMorePages ∧ v.tpd.pdata = Seven.zero ∧ v.tpd.plen = 0) ∧
    v.tpd.page = s.tpd.reqPage ∧ v.tpd.tagid = s.tpd.tagid ∧ v.tpd.idlen = s.tpd.idlen ∧
    v.tpd.tagtype = s.tpd.tagtype := by
  obtain ⟨-, -, -, released, script⟩ := id h
  obtain ⟨u, behind, last, reaches⟩ := tries_reach n h returns count left result
  obtain ⟨kept, -, -, -, page, -, -, -, accepting⟩ := id behind
  obtain ⟨selects, loops, -⟩ := kept.tests
  obtain ⟨-, -, -, read⟩ := kept
  have still := selects.trans reading
  have stillSingle := loops.trans single
  by_cases accepted : r.cause = .none
  · obtain ⟨frame, -, status, long⟩ := accepting accepted
    rw [u.ovh_of_reading still] at long
    rw [State.judged, if_pos accepted] at reaches
    have step' := (step_check (behind.checking released script accepted)).trans
      (exec_resp_read u u.tpd.xbuf still stillSingle status long)
    rw [← accepted] at step'
    refine ⟨_, reaches.trans (.of_step step'), behind.ended dst released script _ .ok ⟨rfl, rfl⟩, fun f _ found => ?_,
      fun failed => absurd accepted failed, page reading, read reading⟩
    obtain rfl : f = u.tpd.xbuf := Option.some.inj (found.symm.trans frame)
    exact ⟨rfl, rfl, ofNat_toNat_of_le_seven (payloadCount_le _ 2), rfl⟩
  · rw [State.judged, if_neg accepted, State.raiseAttempt_of_lastTry _ (last accepted) stillSingle,
      u.failResults_of_reading _ still] at reaches
    exact ⟨_, reaches, behind.ended dst released script _ .noMorePages ⟨rfl, rfl⟩, fun f good => absurd good accepted,
      fun _ => ⟨rfl, rfl, rfl⟩, page reading, read reading⟩

end

/-! ## The obligations -/

/-- An accepted operation of the transactor builds its first command next. -/
theorem State.quiet.transacting_beginTries {s : State} (quiet : s.quiet) (op p : Byte) :
    ((s.accept op).beginTries p).transacting .build := by
  obtain ⟨-, -, -, stuck, released, script⟩ := quiet
  exact ⟨rfl, rfl, stuck, released, script⟩

/-- The tries of an operation, or of a page, at their start. -/
theorem State.beginTries_triesLeft (s : State) (p : Byte) {n : Nat} (single : s.hif.retry = false → n = 0)
    (retrying : s.hif.retry = true → n + 1 = s.maxTries) : (s.beginTries p).triesLeft n := by
  rw [State.triesLeft, State.beginTries_hif]
  split
  case isTrue retry =>
    rw [s.beginTries_of_retrying p retry, Nat.add_comm]
    exact retrying retry
  case isFalse once => exact single (by simpa using once)

/-- Settles O29. -/
theorem selectOperation : Obligations.SelectOperation := by
  unfold Obligations.SelectOperation
  intro i op extra s which quiet
  obtain ⟨free, -, dst, -⟩ := id quiet
  have accepted : exec i s = .next ((s.accept op).beginTries 0) := by
    obtain ⟨rfl, rfl, -⟩ | ⟨rfl, rfl, -⟩ := which
    · exact exec_sel_free free
    · exact exec_selr_free free
  have selecting : (s.accept op).selecting = true := by
    change (op.extractLsb' 0 7 == 0x01) = true
    obtain ⟨-, rfl, -⟩ | ⟨-, rfl, -⟩ := which <;> decide
  have bound : (s.accept op).maxTries = 10 := if_pos selecting
  have left : ((s.accept op).beginTries 0).triesLeft extra := by
    refine State.beginTries_triesLeft _ 0 ?_ (bound ▸ ?_) <;> rw [HostRegs.retry, State.accept_hif_op] <;>
      obtain ⟨-, rfl, rfl⟩ | ⟨-, rfl, rfl⟩ := which <;> simp
  refine ⟨_, accepted, rfl, rfl, fun r returns result => ?_⟩
  obtain ⟨v, reaches, ⟨⟨quiet', done, op', cause⟩, ⟨attempts, writes, reads, hist⟩, tb, ndd, par, arg, tba, ovr,
    badtxt⟩, ok, failed, page, pdata, plen⟩ := select_reaches (quiet.transacting_beginTries op 0) returns
      (show 0 + extra < 15 by obtain ⟨-, -, rfl⟩ | ⟨-, -, rfl⟩ := which <;> decide) left dst
      (by rw [State.ovh_of_selecting _ (by exact selecting)]; exact result) selecting
  exact ⟨v, reaches, quiet', done, op', cause, attempts.trans (Nat.zero_add _), writes, reads, hist, ok, failed, page,
    pdata, plen, tb, ndd, par, arg, tba, ovr, badtxt⟩

/-- Settles O30. -/
theorem readOperation : Obligations.ReadOperation := by
  unfold Obligations.ReadOperation
  intro i op p extra s which quiet
  obtain ⟨free, -, dst, -⟩ := id quiet
  have accepted : exec i s = .next ((s.accept op).beginTries p) := by
    obtain ⟨rfl, rfl, -⟩ | ⟨rfl, rfl, -⟩ := which
    · exact exec_rdp_free free p
    · exact exec_rdpr_free free p
  have reading : (s.accept op).selecting = false := by
    change (op.extractLsb' 0 7 == 0x01) = false
    obtain ⟨-, rfl, -⟩ | ⟨-, rfl, -⟩ := which <;> decide
  have single : (s.accept op).looping = false := by
    change (op.extractLsb' 0 7 == 0x20) = false
    obtain ⟨-, rfl, -⟩ | ⟨-, rfl, -⟩ := which <;> decide
  have bound : (s.accept op).maxTries = 12 := if_neg (by simp [reading])
  have left : ((s.accept op).beginTries p).triesLeft extra := by
    refine State.beginTries_triesLeft _ p ?_ (bound ▸ ?_) <;> rw [HostRegs.retry, State.accept_hif_op] <;>
      obtain ⟨-, rfl, rfl⟩ | ⟨-, rfl, rfl⟩ := which <;> simp
  refine ⟨_, accepted, rfl, rfl, fun r returns result => ?_⟩
  obtain ⟨v, reaches, ⟨⟨quiet', done, op', cause⟩, ⟨attempts, writes, reads, hist⟩, tb, ndd, par, arg, tba, ovr,
    badtxt⟩, ok, failed, page, tagid, idlen, tagtype⟩ := read_reaches (quiet.transacting_beginTries op p) returns
      (show 0 + extra < 15 by obtain ⟨-, -, rfl⟩ | ⟨-, -, rfl⟩ := which <;> decide) left dst
      (by rw [State.ovh_of_reading _ (by exact reading)]; exact result) reading single
  exact ⟨v, reaches, quiet', done, op', cause, attempts.trans (Nat.zero_add _), writes, reads, hist, page, ok, failed,
    tagid, idlen, tagtype, tb, ndd, par, arg, tba, ovr, badtxt⟩

end Sys2Proof.Machine
end

section
/-! The page loop as a run (R160, R161, R164): from page to page, to its stop; obligation O31. -/

namespace Sys2Proof.Machine

/-! ## The loop's function of the module's answers, page by page (R160) -/

/-- What the loop has come to behind a page read. -/
def LoopResult.behindPage (acc : LoopResult) (page : Byte) (q : TryResult) : LoopResult :=
  ⟨acc.bytes ++ payloadList (q.frame.getD Frame.zero) (payloadCount (q.frame.getD Frame.zero) 2), .none, some page,
    q.writes, q.reads⟩

/-- The capacity stop, the stop by a page that is not read, or a page read and what follows it. -/
theorem pageLoopOf_cases {cap extra left : Nat} {acc r : LoopResult} (result : pageLoopOf cap extra left acc = some r) :
    (cap < acc.bytes.length + 7 ∧ r = { acc with cause := .cap }) ∨
      (acc.bytes.length + 7 ≤ cap ∧ ∃ q, triesOf 2 extra acc.writes acc.reads = some q ∧
        ((q.cause ≠ .none ∧ r = ⟨acc.bytes, q.cause, some (BitVec.ofNat 8 (255 - left)), q.writes, q.reads⟩) ∨
          (q.cause = .none ∧
            ((left = 0 ∧ r = { acc.behindPage (BitVec.ofNat 8 (255 - left)) q with cause := .lastPage }) ∨
              ∃ k, left = k + 1 ∧
                pageLoopOf cap extra k (acc.behindPage (BitVec.ofNat 8 (255 - left)) q) = some r)))) := by
  unfold pageLoopOf at result
  split at result
  case isTrue full => exact .inl ⟨full, (Option.some.inj result).symm⟩
  case isFalse room =>
    refine .inr ⟨Nat.not_lt.mp room, ?_⟩
    split at result
    case h_1 => cases result
    case h_2 q tries =>
      refine ⟨q, tries, ?_⟩
      dsimp only at result
      split at result
      case isTrue failed => exact .inl ⟨failed, (Option.some.inj result).symm⟩
      case isFalse accepted =>
        refine .inr ⟨not_not.mp accepted, ?_⟩
        cases left with
        | zero => exact .inl ⟨rfl, (Option.some.inj result).symm⟩
        | succ k => exact .inr ⟨k, rfl, result⟩

/-! ## The loop's states between two pages -/

/-- What the loop leaves as it was. -/
def State.keptByLoop (s t : State) : Prop :=
  (t.hif.op = s.hif.op ∧ t.hif.arg = s.hif.arg ∧ t.hif.badtxt = s.hif.badtxt ∧ t.hif.ovr = s.hif.ovr ∧
    t.hif.tba = s.hif.tba) ∧
  (t.tpd.tagid = s.tpd.tagid ∧ t.tpd.idlen = s.tpd.idlen ∧ t.tpd.tagtype = s.tpd.tagtype) ∧
  t.ndd = s.ndd ∧ t.par = s.par

theorem State.keptByLoop.trans {s t u : State} (first : s.keptByLoop t) (second : t.keptByLoop u) :
    s.keptByLoop u := by
  obtain ⟨⟨op, arg, badtxt, ovr, tba⟩, ⟨tagid, idlen, tagtype⟩, ndd, par⟩ := first
  obtain ⟨⟨op', arg', badtxt', ovr', tba'⟩, ⟨tagid', idlen', tagtype'⟩, ndd', par'⟩ := second
  exact ⟨⟨op'.trans op, arg'.trans arg, badtxt'.trans badtxt, ovr'.trans ovr, tba'.trans tba⟩,
    ⟨tagid'.trans tagid, idlen'.trans idlen, tagtype'.trans tagtype⟩, ndd'.trans ndd, par'.trans par⟩

theorem State.keptByTries.keptByLoop {s t : State} (kept : s.keptByTries t) (reading : s.selecting = false) :
    s.keptByLoop t := by
  obtain ⟨host, ⟨-, ndd, par, -⟩, -, read⟩ := kept
  exact ⟨host, read reading, ndd, par⟩

theorem State.keptByLoop.refl (s : State) : s.keptByLoop s :=
  ⟨⟨rfl, rfl, rfl, rfl, rfl⟩, ⟨rfl, rfl, rfl⟩, rfl, rfl⟩

/-- The loop is about to test the capacity, its part of the answers read having come to `acc`. -/
def State.betweenPages (s : State) (acc : LoopResult) : Prop :=
  (s.hif.busy = true ∧ s.looping = true ∧ s.tpd.stuck = false ∧ s.ndd.dst = .idle) ∧
    (s.env.rst = false ∧ s.env.script = [] ∧ s.busReturns ∧ s.env.writes = acc.writes ∧ s.env.reads = acc.reads) ∧
    s.tbBytes = some acc.bytes ∧ ∀ p, acc.page = some p → s.tpd.page = p

/-- The loop has completed with `r`. -/
def State.loopEnded (s v : State) (r : LoopResult) : Prop :=
  v.quiet ∧ v.hif.done = true ∧ v.hif.res = .ok ∧ v.hif.cause = r.cause ∧ v.tbBytes = some r.bytes ∧
    (∀ p, r.page = some p → v.tpd.page = p) ∧ v.env.writes = r.writes ∧ v.env.reads = r.reads ∧ s.keptByLoop v

theorem State.loopEnded.of_kept {s t v : State} {r : LoopResult} (ended : t.loopEnded v r) (kept : s.keptByLoop t) :
    s.loopEnded v r := by
  obtain ⟨quiet, done, res, cause, bytes, page, writes, reads, kept'⟩ := ended
  exact ⟨quiet, done, res, cause, bytes, page, writes, reads, kept.trans kept'⟩

/-- Between pages the loop completes with what it has come to. -/
theorem State.betweenPages.endWith {s t : State} {acc : LoopResult} (between : t.betweenPages acc)
    (kept : s.keptByLoop t) (c : Cause) : s.loopEnded (t.endWith .ok c) { acc with cause := c } := by
  obtain ⟨⟨-, -, free, dst⟩, ⟨released, script, -, writes, reads⟩, bytes, page⟩ := between
  have idleNdd : { t.ndd with dst := .idle } = t.ndd := by rw [← dst]
  refine ⟨⟨rfl, rfl, rfl, free, released, script⟩, rfl, rfl, rfl, bytes, page, writes, reads, kept.trans ?_⟩
  exact ⟨⟨rfl, rfl, rfl, rfl, rfl⟩, ⟨rfl, rfl, rfl⟩, idleNdd, rfl⟩

/-- A page that is not read completes the loop with its cause (R161). -/
theorem State.raiseAttempt_of_lastPage {u : State} (c : Cause) (last : u.lastTry) (looping : u.looping = true) :
    u.raiseAttempt c = (u.failResults c).endWith .ok c := by
  obtain ⟨retry, left, -⟩ | ⟨-, -, ended⟩ | ⟨-, single, -⟩ := u.raiseAttempt_cases c
  · exact absurd ⟨retry, left⟩ last
  · exact ended
  · simp [looping] at single

section
variable {s u : State} {acc : LoopResult} {page : Byte} {q : TryResult}
  (between : s.betweenPages acc) (behind : (s.beginTries page).behindTries u q) (returns : u.busReturns)
include between behind returns

/-- Behind the tries of a page that failed, the loop has come to the bytes before it. -/
theorem State.betweenPages.failed (c : Cause) : (u.failResults c).betweenPages
    ⟨acc.bytes, c, some page, q.writes, q.reads⟩ ∧ s.keptByLoop (u.failResults c) := by
  obtain ⟨⟨busy, looping, free, dst⟩, ⟨released, script, -⟩, bytes, -⟩ := between
  have reading := s.not_selecting_of_looping looping
  obtain ⟨kept, busy', free', -, read, ⟨rst, script', -⟩, writes, reads, -⟩ := behind
  obtain ⟨selects, loops, -⟩ := kept.tests
  obtain ⟨-, ⟨tb, ndd, -, -⟩, -⟩ := id kept
  have same : u.tbBytes = s.tbBytes := by rw [State.tbBytes, tb]; rfl
  rw [u.failResults_of_reading c (selects.trans reading)]
  refine ⟨⟨⟨busy', loops.trans looping, free', (congrArg Ndd.dst ndd).trans dst⟩,
    ⟨rst.trans released, script'.trans script, returns, writes, reads⟩, same.trans bytes, ?_⟩, ?_⟩
  · rintro p ⟨⟩
    exact read reading
  · exact kept.keptByLoop reading

/-- Behind a page read, its payload stands behind the bytes before it. -/
theorem State.betweenPages.appended (frame : q.frame = some u.tpd.xbuf)
    (room : acc.bytes.length + 7 ≤ s.par.cap.toNat) :
    (u.pageAppended u.tpd.xbuf).betweenPages (acc.behindPage page q) ∧
      s.keptByLoop (u.pageAppended u.tpd.xbuf) := by
  obtain ⟨⟨busy, looping, free, dst⟩, ⟨released, script, -⟩, bytes, -⟩ := between
  have reading := s.not_selecting_of_looping looping
  obtain ⟨kept, busy', free', -, read, ⟨rst, script', -⟩, writes, reads, -⟩ := behind
  obtain ⟨-, loops, -⟩ := kept.tests
  obtain ⟨-, ⟨tb, ndd, par, -⟩, -⟩ := id kept
  have same : u.tbBytes = s.tbBytes := by rw [State.tbBytes, tb]; rfl
  have count := payloadCount_le u.tpd.xbuf 2
  obtain ⟨length, -⟩ := State.tbBytes_eq_some_iff.mp bytes
  have fits : u.tb.len.toNat + (payloadList u.tpd.xbuf (payloadCount u.tpd.xbuf 2)).length ≤ u.par.cap.toNat := by
    rw [tb, par, payloadList_length _ count]
    change s.tb.len.toNat + _ ≤ s.par.cap.toNat
    omega
  have appended : (u.pageAppended u.tpd.xbuf).tbBytes = some (acc.behindPage page q).bytes := by
    rw [LoopResult.behindPage, frame]
    exact State.tbBytes_tbAppend _ (same.trans bytes) fits
  have moved : u.keptByLoop (u.pageAppended u.tpd.xbuf) := by simp [State.keptByLoop]
  refine ⟨⟨⟨?_, ?_, ?_, ?_⟩, ⟨?_, ?_, ?_, ?_, ?_⟩, appended, ?_⟩, (kept.keptByLoop reading).trans moved⟩
  · simpa using busy'
  · simpa [State.looping, HostRegs.fn] using loops.trans looping
  · simpa using free'
  · simpa using (congrArg Ndd.dst ndd).trans dst
  · simpa using rst.trans released
  · simpa using script'.trans script
  · simpa [State.busReturns] using returns
  · simpa [LoopResult.behindPage] using writes
  · simpa [LoopResult.behindPage] using reads
  · rintro p ⟨⟩
    simpa using read reading

end

/-! ## The loop from page to page -/

/-- The number of tries beyond the first: none in the single operation, eleven in the retrying one (R135, R136). -/
def State.extraTries (s : State) (extra : Nat) : Prop :=
  (s.hif.retry = false → extra = 0) ∧ (s.hif.retry = true → extra + 1 = s.maxTries)

theorem State.extraTries.lt {s : State} {extra : Nat} (tries : s.extraTries extra) : extra < 15 := by
  obtain ⟨single, retrying⟩ := tries
  have most := s.maxTries_le
  cases retry : s.hif.retry with
  | false =>
    have none := single retry
    omega
  | true =>
    have counted := retrying retry
    omega

theorem State.extraTries.of_op {s t : State} {extra : Nat} (tries : s.extraTries extra) (op : t.hif.op = s.hif.op) :
    t.extraTries extra := by
  obtain ⟨-, -, retry, -, bound⟩ := State.tests_of_op op
  rw [State.extraTries, retry, bound]
  exact tries

/-- One page's tries, and what follows them: the loop completes, or it is between two pages again (R160, R161). -/
theorem page_reaches {s : State} {acc : LoopResult} {page : Byte} {extra : Nat} {q : TryResult}
    (between : s.betweenPages acc) (tries : s.extraTries extra) (room : acc.bytes.length + 7 ≤ s.par.cap.toNat)
    (result : triesOf 2 extra acc.writes acc.reads = some q) :
    (q.cause ≠ .none → ∃ v, Reaches (s.beginTries page) v ∧
      s.loopEnded v ⟨acc.bytes, q.cause, some page, q.writes, q.reads⟩) ∧
    (q.cause = .none → ∃ t, t.betweenPages (acc.behindPage page q) ∧ s.keptByLoop t ∧
      Reaches (s.beginTries page)
        (if page = Config.lastPage then t.endWith .ok .lastPage else t.beginPage (page + 1))) := by
  obtain ⟨⟨busy, looping, free, dst⟩, ⟨released, script, returns, writes, reads⟩, -, -⟩ := id between
  have reading := s.not_selecting_of_looping looping
  have building : (s.beginTries page).transacting .build := ⟨busy, rfl, free, released, script⟩
  obtain ⟨u, behind, last, reaches⟩ := tries_reach extra building returns (show 0 + extra < 15 by
      have few := tries.lt
      omega) (s.beginTries_triesLeft page tries.1 tries.2)
    (by rw [State.ovh_of_reading _ (by exact reading)]; exact writes ▸ reads ▸ result)
  obtain ⟨kept, -, -, -, -, ⟨-, -, suffix, -⟩, -, -, accepting⟩ := id behind
  have returns' : u.busReturns := returns.of_suffix (t := u) suffix
  obtain ⟨selects, loops, -⟩ := kept.tests
  have stillLooping : u.looping = true := loops.trans looping
  refine ⟨fun failed => ?_, fun accepted => ?_⟩
  · rw [State.judged, if_neg failed, State.raiseAttempt_of_lastPage _ (last failed) stillLooping] at reaches
    obtain ⟨between', kept'⟩ := between.failed behind returns' q.cause
    exact ⟨_, reaches, between'.endWith kept' q.cause⟩
  · obtain ⟨frame, -, status, long⟩ := accepting accepted
    rw [u.ovh_of_reading (u.not_selecting_of_looping stillLooping)] at long
    obtain ⟨between', kept'⟩ := between.appended behind returns' frame room
    have next := (step_check (behind.checking released script accepted)).trans
      (exec_resp_loop u u.tpd.xbuf stillLooping status long)
    obtain ⟨-, ⟨-, -, -, asked⟩, -⟩ := kept
    rw [asked] at next
    rw [State.judged, if_pos accepted] at reaches
    exact ⟨_, between', kept', reaches.trans (.of_step next)⟩

/-- Before page 255 there is a next page (R160). -/
theorem page_ne_last {k : Nat} (small : k + 1 ≤ 251) : BitVec.ofNat 8 (255 - (k + 1)) ≠ Config.lastPage := by
  intro last
  have same := congrArg BitVec.toNat last
  rw [BitVec.toNat_ofNat, show Config.lastPage.toNat = 255 from rfl] at same
  omega

theorem page_next {k : Nat} (small : k + 1 ≤ 251) : BitVec.ofNat 8 (255 - (k + 1)) + 1 = BitVec.ofNat 8 (255 - k) := by
  rw [show (1 : Byte) = BitVec.ofNat 8 1 from rfl, ← BitVec.ofNat_add]
  congr 1
  omega

/-- The loop from its capacity test before a page on, as its function of the module's answers tells it. -/
theorem pages_reach (left : Nat) {s : State} {acc r : LoopResult} {extra : Nat} (small : left ≤ 251)
    (between : s.betweenPages acc) (tries : s.extraTries extra)
    (result : pageLoopOf s.par.cap.toNat extra left acc = some r) :
    ∃ v, Reaches (s.beginPage (BitVec.ofNat 8 (255 - left))) v ∧ s.loopEnded v r := by
  induction left using Nat.strong_induction_on generalizing s acc with
  | _ left ih =>
    obtain ⟨-, -, bytes, -⟩ := id between
    obtain ⟨length, -⟩ := State.tbBytes_eq_some_iff.mp bytes
    obtain ⟨full, rfl⟩ | ⟨room, q, tried, after⟩ := pageLoopOf_cases result
    · have stops : s.beginPage (BitVec.ofNat 8 (255 - left)) = s.endWith .ok .cap := if_pos (length ▸ full)
      rw [stops]
      exact ⟨_, .refl _, between.endWith (.refl s) .cap⟩
    · have begins : s.beginPage (BitVec.ofNat 8 (255 - left)) = s.beginTries (BitVec.ofNat 8 (255 - left)) :=
        if_neg (Nat.not_lt.mpr (length ▸ room))
      rw [begins]
      obtain ⟨failing, accepting⟩ := page_reaches (page := BitVec.ofNat 8 (255 - left)) between tries room tried
      obtain ⟨failed, rfl⟩ | ⟨accepted, goesOn⟩ := after
      · exact failing failed
      · obtain ⟨t, between', kept, reaches⟩ := accepting accepted
        obtain ⟨⟨op, -⟩, -, -, par⟩ := id kept
        obtain ⟨rfl, rfl⟩ | ⟨k, rfl, result⟩ := goesOn
        · exact ⟨_, reaches, between'.endWith kept .lastPage⟩
        · rw [if_neg (page_ne_last small), page_next small] at reaches
          obtain ⟨v, reaches', ended⟩ := ih k (by omega) (by omega) between' (tries.of_op op)
            (by rw [par]; exact result)
          exact ⟨v, reaches.trans reaches', ended.of_kept kept⟩

/-- Settles O31: the emptied TagBuffer, then page 4 on. -/
theorem pageLoopOperation : Obligations.PageLoopOperation := by
  unfold Obligations.PageLoopOperation
  intro i op extra s which quiet
  obtain ⟨free, -, dst, stuck, released, script⟩ := id quiet
  have accepted : exec i s = .next ((s.accept op).tbClear.beginPage Config.firstUserPage) := by
    rw [State.beginPage_tbClear]
    obtain ⟨rfl, rfl, -⟩ | ⟨rfl, rfl, -⟩ := which
    · exact exec_rdt_free free
    · exact exec_rdtr_free free
  have looping : (s.accept op).tbClear.looping = true := by
    change (op.extractLsb' 0 7 == 0x20) = true
    obtain ⟨-, rfl, -⟩ | ⟨-, rfl, -⟩ := which <;> decide
  have bound : (s.accept op).tbClear.maxTries = 12 := if_neg (by simp [State.not_selecting_of_looping _ looping])
  have tries : (s.accept op).tbClear.extraTries extra := by
    rw [State.extraTries, bound]
    change (op.getLsbD 7 = false → _) ∧ (op.getLsbD 7 = true → _)
    obtain ⟨-, rfl, rfl⟩ | ⟨-, rfl, rfl⟩ := which <;> simp
  refine ⟨_, accepted, fun r returns result => ?_⟩
  have between : (s.accept op).tbClear.betweenPages ⟨[], .none, none, s.env.writes, s.env.reads⟩ :=
    ⟨⟨rfl, looping, stuck, dst⟩, ⟨released, script, returns, rfl, rfl⟩, State.tbBytes_tbClear _, nofun⟩
  obtain ⟨v, reaches, quiet', done, res, cause, bytes, page, writes, reads, ⟨⟨op', arg, badtxt, ovr, tba⟩,
    ⟨tagid, idlen, tagtype⟩, ndd, par⟩⟩ := pages_reach 251 (le_refl _) between tries result
  exact ⟨v, reaches, quiet', done, op', res, cause, bytes, (State.tbBytes_eq_some_iff.mp bytes).1.symm, page, writes,
    reads, tagid, idlen, tagtype, ndd, par, arg, tba, ovr, badtxt⟩

end Sys2Proof.Machine
end

section
/-! The pseudocode's readings of a buffer against the bytes the decoder unit decodes (R101, R105, R107). -/

namespace Sys2Proof.Machine

section
variable {buf : List Byte} {i : Nat}

/-- A byte of the buffer is the first of the window at its index. -/
theorem take_drop_eq_cons {b : Byte} (n : Nat) (under : buf[i]? = some b) :
    (buf.drop i).take (n + 1) = b :: (buf.drop (i + 1)).take n := by
  obtain ⟨inside, rfl⟩ := List.getElem?_eq_some_iff.mp under
  rw [List.drop_eq_getElem_cons inside, List.take_succ_cons]

theorem exists_byte (inside : i < buf.length) : ∃ b, buf[i]? = some b := ⟨_, List.getElem?_eq_getElem inside⟩

/-- A length field that does not fit, a short one, or an extended one. -/
theorem lengthAt_cases (buf : List Byte) (i : Nat) :
    ((buf.length ≤ i ∨ (buf[i]? = some 0xFF ∧ buf.length < i + 3)) ∧ lengthAt buf i = none) ∨
      (∃ b, b ≠ 0xFF ∧ buf[i]? = some b ∧ lengthAt buf i = some (b.toNat, i + 1)) ∨
      (∃ h l, buf[i]? = some 0xFF ∧ buf[i + 1]? = some h ∧ buf[i + 2]? = some l ∧
        lengthAt buf i = some (256 * h.toNat + l.toNat, i + 3)) := by
  by_cases inside : i < buf.length
  · obtain ⟨b, under⟩ := exists_byte inside
    by_cases extended : b = 0xFF
    · subst extended
      by_cases fits : i + 2 < buf.length
      · obtain ⟨h, high⟩ := exists_byte (show i + 1 < buf.length by omega)
        obtain ⟨l, low⟩ := exists_byte fits
        exact .inr (.inr ⟨h, l, under, high, low, by simp [lengthAt, under, high, low, Config.lenExt]⟩)
      · have cut : buf[i + 2]? = none := List.getElem?_eq_none (by omega)
        refine .inl ⟨.inr ⟨under, by omega⟩, ?_⟩
        simp [lengthAt, under, cut, Config.lenExt]
    · have short : lengthAt buf i = some (b.toNat, i + 1) := by
        rw [lengthAt, under]
        exact if_neg extended
      exact .inr (.inl ⟨b, extended, under, short⟩)
  · have none : buf[i]? = none := List.getElem?_eq_none (by omega)
    exact .inl ⟨.inl (by omega), by simp [lengthAt, none]⟩

/-- A payload length read lies before the end of the buffer. -/
theorem payLenAt_some {sr : Bool} {pl j : Nat} (read : payLenAt buf sr i = some (pl, j)) :
    j = i + (if sr then 1 else 4) ∧ j ≤ buf.length := by
  unfold payLenAt at read
  split at read
  case isTrue short =>
    obtain ⟨b, last, found⟩ := Option.map_eq_some_iff.mp read
    obtain ⟨inside, -⟩ := List.getElem?_eq_some_iff.mp last
    cases found
    exact ⟨by rw [if_pos short], inside⟩
  case isFalse long =>
    split at read
    case h_1 last =>
      obtain ⟨inside, -⟩ := List.getElem?_eq_some_iff.mp last
      cases read
      exact ⟨by rw [if_neg long], inside⟩
    case h_2 => cases read

/-- A record's fixed part that does not fit. -/
theorem headerAt_cut {hdr : Byte} (under : buf[i]? = some hdr) (cut : buf.length < i + fixedPartSize hdr) :
    headerAt buf i = none := by
  rw [headerAt, under]
  cases buf[i + 1]? with
  | none => rfl
  | some tl =>
    cases read : payLenAt buf (hdrSR hdr) (i + 2) with
    | none => simp only [read]
    | some field =>
      obtain ⟨pl, j⟩ := field
      obtain ⟨behind, fits⟩ := payLenAt_some read
      have size : i + fixedPartSize hdr = j + (if hdrIL hdr then 1 else 0) := by
        unfold fixedPartSize
        split_ifs at behind ⊢ <;> omega
      rw [size] at cut
      cases il : hdrIL hdr with
      | false =>
        simp only [il, Bool.false_eq_true, if_false] at cut
        omega
      | true =>
        simp only [il, if_true] at cut
        have none : buf[j]? = none := List.getElem?_eq_none (by omega)
        simp only [read, il, if_true, none, Option.map_none]

/-- A record's fixed part that fits is what the decoder decodes from the window, and one `ReadRecordHeader`. -/
theorem headerAt_fits {hdr : Byte} (under : buf[i]? = some hdr) (fits : i + fixedPartSize hdr ≤ buf.length) :
    ∃ ins tl p il, decode .ndefRec ((buf.drop i).take 7) = .ok ins ∧
      (∀ s, exec ins s = .next (s.readHeader (fixedPartSize hdr) hdr tl p il)) ∧
      headerAt buf i = some ⟨hdr, tl.toNat, p.toNat, il.toNat, i + fixedPartSize hdr⟩ := by
  have least : 3 ≤ fixedPartSize hdr := by unfold fixedPartSize; split_ifs <;> omega
  obtain ⟨tl, second⟩ := exists_byte (show i + 1 < buf.length by omega)
  obtain ⟨p0, third⟩ := exists_byte (show i + 1 + 1 < buf.length by omega)
  rw [take_drop_eq_cons 6 under, take_drop_eq_cons 5 second, take_drop_eq_cons 4 third]
  cases sr : hdrSR hdr with
  | true =>
    have widened : (p0.setWidth 32).toNat = p0.toNat := BitVec.toNat_setWidth_of_le (by decide)
    cases il : hdrIL hdr with
    | false =>
      have size : fixedPartSize hdr = 3 := by simp [fixedPartSize, sr, il]
      refine ⟨_, tl, p0.setWidth 32, 0, decode_ndefRec_short tl p0 _ sr il, fun s => ?_, ?_⟩
      · rw [size, exec_recSr_recFlagsOf tl s p0 sr il]
      · simp [headerAt, payLenAt, under, second, third, sr, il, size, widened]
    | true =>
      have size : fixedPartSize hdr = 4 := by simp [fixedPartSize, sr, il]
      obtain ⟨id, fourth⟩ := exists_byte (show i + 1 + 1 + 1 < buf.length by omega)
      rw [take_drop_eq_cons 3 fourth]
      refine ⟨_, tl, p0.setWidth 32, id, decode_ndefRec_shortId tl p0 id _ sr il, fun s => ?_, ?_⟩
      · rw [size, exec_recSrIl_recFlagsOf tl id s p0 sr il]
      · simp [headerAt, payLenAt, under, second, third, fourth, sr, il, size, widened]
  | false =>
    have least : 6 ≤ fixedPartSize hdr := by simp [fixedPartSize, sr]
    obtain ⟨p1, fourth⟩ := exists_byte (show i + 1 + 1 + 1 < buf.length by omega)
    obtain ⟨p2, fifth⟩ := exists_byte (show i + 1 + 1 + 1 + 1 < buf.length by omega)
    obtain ⟨p3, sixth⟩ := exists_byte (show i + 1 + 1 + 1 + 1 + 1 < buf.length by omega)
    have value := be32_toNat p0 p1 p2 p3
    rw [take_drop_eq_cons 3 fourth, take_drop_eq_cons 2 fifth, take_drop_eq_cons 1 sixth]
    cases il : hdrIL hdr with
    | false =>
      have size : fixedPartSize hdr = 6 := by simp [fixedPartSize, sr, il]
      refine ⟨_, tl, be32 p0 p1 p2 p3, 0, decode_ndefRec_long tl p0 p1 p2 p3 _ sr il, fun s => ?_, ?_⟩
      · rw [size, exec_recLong_recFlagsOf tl s _ sr il]
      · simp [headerAt, payLenAt, under, second, third, fourth, fifth, sixth, sr, il, size, value]
    | true =>
      have size : fixedPartSize hdr = 7 := by simp [fixedPartSize, sr, il]
      obtain ⟨id, seventh⟩ := exists_byte (show i + 1 + 1 + 1 + 1 + 1 + 1 < buf.length by omega)
      rw [take_drop_eq_cons 0 seventh]
      refine ⟨_, tl, be32 p0 p1 p2 p3, id, decode_ndefRec_longId tl p0 p1 p2 p3 id _ sr il, fun s => ?_, ?_⟩
      · rw [size, exec_recLongIl_recFlagsOf tl id s _ sr il]
      · simp [headerAt, payLenAt, under, second, third, fourth, fifth, sixth, seventh, sr, il, size, value]

end

end Sys2Proof.Machine
end

section
/-! `DEC` as a run (R175 to R203): one passage of the two scans after the other against the pseudocode's functions of
the buffer, and the whole operation; obligation O32. -/

namespace Sys2Proof.Machine

/-! ## The states of a scan -/

/-- `DEC` accepted in `s` runs: what it leaves as it was, and `CE`. -/
def State.scanFrom (s t : State) : Prop :=
  t.hif.busy = true ∧ (t.tb = s.tb ∧ t.tpd = s.tpd ∧ t.env = s.env ∧ t.par = s.par) ∧
    (t.hif.op = 0x30 ∧ t.hif.arg = s.hif.arg ∧ t.hif.ovr = s.hif.ovr ∧ t.hif.tba = s.hif.tba) ∧ t.ndd.ce = s.tb.len

/-- The outer scan reads a type at `i` next. -/
def State.atType (s t : State) (i : Nat) (bad : Bool) : Prop :=
  s.scanFrom t ∧ t.ndd.dst = .readType ∧ t.ndd.idx.toNat = i ∧ t.hif.badtxt = bad

/-- A TLV's length is read and its type is acted on next. -/
def State.atDispatch (s t : State) (b : Byte) (l j : Nat) (bad : Bool) : Prop :=
  s.scanFrom t ∧ t.ndd.dst = .dispatch ∧ t.ndd.tlvT = b ∧ t.ndd.tlvL.toNat = l ∧ t.ndd.idx.toNat = j ∧
    t.ndd.msgend.toNat = j + l ∧ t.hif.badtxt = bad

/-- The record scan tests at `i` whether a record begins. -/
def State.atRecord (s t : State) (msgend i : Nat) (bad : Bool) : Prop :=
  s.scanFrom t ∧ t.ndd.dst = .record ∧ t.ndd.inBody = false ∧ t.ndd.msgend.toNat = msgend ∧ t.ndd.idx.toNat = i ∧
    t.hif.badtxt = bad

/-- A record's fixed part is read and the record is classified next. -/
def State.atBody (s t : State) (h : Header) (msgend : Nat) (bad : Bool) : Prop :=
  s.scanFrom t ∧ (t.ndd.dst = .record ∧ t.ndd.inBody = true ∧ t.ndd.msgend.toNat = msgend ∧ t.hif.badtxt = bad) ∧
    t.ndd.hdr = h.hdr ∧ t.ndd.typelen.toNat = h.typelen ∧ t.ndd.paylen.toNat = h.paylen ∧
    t.ndd.ridlen.toNat = h.ridlen ∧ t.ndd.idx.toNat = h.body ∧ t.ndd.body.toNat = h.body

/-- The scan has ended with `r`. -/
def State.scanned (s t : State) (r : ScanResult) : Prop :=
  s.scanFrom t ∧ t.ndd.dst = .done ∧ t.hif.res = r.res ∧ t.hif.cause = r.cause ∧ t.ndd.idx.toNat = r.idx ∧
    t.ndd.txtOff.toNat = r.off ∧ t.ndd.txtLen.toNat = r.len ∧ t.hif.badtxt = r.bad

/-- Some state with a property is reached. -/
def ReachesSome (s : State) (p : State → Prop) : Prop := ∃ t, Reaches s t ∧ p t

theorem ReachesSome.here {s : State} {p : State → Prop} (holds : p s) : ReachesSome s p := ⟨s, .refl s, holds⟩

theorem Reaches.some_trans {s t : State} {p : State → Prop} (first : Reaches s t) (rest : ReachesSome t p) :
    ReachesSome s p := by
  obtain ⟨u, second, holds⟩ := rest
  exact ⟨u, first.trans second, holds⟩

theorem ReachesSome.bind {s : State} {p q : State → Prop} (first : ReachesSome s p)
    (rest : ∀ t, p t → ReachesSome t q) : ReachesSome s q := by
  obtain ⟨t, reaches, holds⟩ := first
  exact reaches.some_trans (rest t holds)

/-- Short of its end the decoder unit keeps `BUSY`. -/
theorem DecoderMove.busy {s t : State} (move : DecoderMove s t) (notDone : s.ndd.dst ≠ .done) :
    t.hif.busy = s.hif.busy := by
  cases move with
  | completes dst => exact absurd dst notDone
  | lengthCut =>
    obtain ⟨-, -, -, -, hif, -⟩ := s.lengthCut_frame
    rw [hif]
  | _ => rfl

theorem DecoderMove.ce {s t : State} (move : DecoderMove s t) : t.ndd.ce = s.ndd.ce := by
  cases move with
  | lengthCut =>
    obtain ⟨-, -, -, -, -, ndd⟩ := s.lengthCut_frame
    rw [ndd]
  | _ => rfl

/-- The block is quiet and these are the TagBuffer's bytes. -/
def State.quietWith (s : State) (buf : List Byte) : Prop := s.quiet ∧ s.tbBytes = some buf

section
variable {s t u : State} {buf : List Byte} (start : s.quietWith buf) (scan : s.scanFrom t)
include start scan

theorem State.quietWith.decoding : t.decoding := by
  obtain ⟨⟨-, tst, -, -, released, script⟩, -⟩ := start
  obtain ⟨busy, ⟨-, tpd, env, -⟩, -⟩ := scan
  exact ⟨busy, by rw [tpd, tst], by rw [env, released], by rw [env, script]⟩

/-- A step of the decoder unit goes on with the scan. -/
theorem State.quietWith.next (notDone : t.ndd.dst ≠ .done) (run : t.fetchDecoder.run = .next u) :
    Reaches t u ∧ s.scanFrom u := by
  have decoding := start.decoding scan
  obtain ⟨busy, tst, -⟩ := id decoding
  have move := decoderMove_of_run run
  obtain ⟨tb, tpd, env, par, op, arg, ovr, tba⟩ := move.frame tst
  obtain ⟨-, ⟨tb', tpd', env', par'⟩, ⟨op', arg', ovr', tba'⟩, ce⟩ := scan
  exact ⟨.of_step (decoding.step_eq.trans run), (move.busy notDone).trans busy,
    ⟨tb.trans tb', tpd.trans tpd', env.trans env', par.trans par'⟩,
    ⟨op.trans op', arg.trans arg', ovr.trans ovr', tba.trans tba'⟩, move.ce.trans ce⟩

theorem State.quietWith.ce_toNat : t.ndd.ce.toNat = buf.length := by
  obtain ⟨-, bytes⟩ := start
  obtain ⟨-, -, -, ce⟩ := scan
  obtain ⟨length, -⟩ := State.tbBytes_eq_some_iff.mp bytes
  rw [ce, length]

theorem State.quietWith.read {i : Nat} (inside : i < buf.length) : Memory.read t.tb.cells i = buf[i]? := by
  obtain ⟨-, bytes⟩ := start
  obtain ⟨-, ⟨tb, -⟩, -⟩ := scan
  obtain ⟨length, read⟩ := State.tbBytes_eq_some_iff.mp bytes
  rw [tb, read i (length ▸ inside)]

theorem State.quietWith.valued : t.valuedBelowCe := fun i below => by
  rw [start.ce_toNat scan] at below
  rw [start.read scan below, List.getElem?_eq_getElem below]
  rfl

/-- The window at the cursor is the buffer's part there. -/
theorem State.quietWith.window (n : Nat) : t.window n = some ((buf.drop t.ndd.idx.toNat).take n) := by
  have ce := start.ce_toNat scan
  rw [State.window, Memory.readRange_eq_some_iff, List.length_take, List.length_drop, ce]
  refine ⟨rfl, fun k inside => ?_⟩
  rw [List.getElem?_take_of_lt (by omega), List.getElem?_drop]
  exact start.read scan (by omega)

end

/-! ## The outer scan's passages (R176 to R184) -/

section
variable {s t : State} {buf : List Byte} {i : Nat} {bad : Bool} (start : s.quietWith buf)
include start

/-- The type byte at the cursor, run. -/
theorem run_readType {b : Byte} (here : s.atType t i bad) (under : buf[i]? = some b) :
    t.fetchDecoder.run = exec (decodeTlvType b) t := by
  obtain ⟨scan, dst, rfl, -⟩ := here
  obtain ⟨inside, -⟩ := List.getElem?_eq_some_iff.mp under
  have below : t.ndd.idx.toNat < t.ndd.ce.toNat := by rwa [start.ce_toNat scan]
  rw [State.fetchDecoder_readType dst below, State.fetchWindow_some (start.window scan 1), take_drop_eq_cons 0 under]
  exact Fetched.run_element t rfl

theorem reaches_endOfBuffer (here : s.atType t i bad) (atEnd : buf[i]? = none) :
    ReachesSome t (s.scanned · (notFoundAt .endOfBuffer i bad)) := by
  obtain ⟨scan, dst, rfl, rfl⟩ := here
  have beyond : t.ndd.ce.toNat ≤ t.ndd.idx.toNat := by
    rw [start.ce_toNat scan]
    exact List.getElem?_eq_none_iff.mp atEnd
  have run : t.fetchDecoder.run = .next (t.raiseDecode .endOfBuffer) := by
    rw [State.fetchDecoder_endOfBuffer dst beyond]
    rfl
  obtain ⟨reaches, scan'⟩ := start.next scan (by simp [dst]) run
  exact ⟨_, reaches, scan', rfl, rfl, rfl, rfl, rfl, rfl, rfl⟩

/-- The cursor behind a type byte. -/
theorem readType_idx_of_under {b : Byte} (next : Dst) (here : s.atType t i bad) (under : buf[i]? = some b) :
    (t.readType b next).ndd.idx.toNat = i + 1 := by
  obtain ⟨scan, -, rfl, -⟩ := here
  obtain ⟨inside, -⟩ := List.getElem?_eq_some_iff.mp under
  exact t.readType_idx_toNat b next (by rwa [start.ce_toNat scan])

theorem reaches_behindNull (here : s.atType t i bad) (under : buf[i]? = some Config.tlvNull) :
    ReachesSome t (s.atType · (i + 1) bad) := by
  have idx := readType_idx_of_under start .readType here under
  have run := run_readType start here under
  obtain ⟨scan, dst, -, rfl⟩ := here
  obtain ⟨reaches, scan'⟩ := start.next scan (by simp [dst]) run
  exact ⟨_, reaches, scan', rfl, idx, rfl⟩

/-- The type byte of a TLV that has a length. -/
theorem reaches_length {b : Byte} (here : s.atType t i bad) (under : buf[i]? = some b) (typed : b ≠ Config.tlvNull) :
    ReachesSome t fun u => s.scanFrom u ∧ u.ndd.dst = .readLength ∧ u.ndd.tlvT = b ∧ u.ndd.idx.toNat = i + 1 ∧
      u.hif.badtxt = bad := by
  have idx := readType_idx_of_under start .readLength here under
  have run := run_readType start here under
  obtain ⟨scan, dst, -, rfl⟩ := here
  have reading : t.ndd.dst ≠ .dispatch := by simp [dst]
  have typeRead : exec (decodeTlvType b) t = .next (t.readType b .readLength) := by
    obtain ⟨null, -⟩ | ⟨rfl, e⟩ | ⟨rfl, e⟩ | ⟨-, -, -, e⟩ := decodeTlvType_cases b
    · exact absurd null typed
    · rw [e, exec_tlvNdef_read t reading]
    · rw [e, exec_tlvTerminator_read t reading]
    · rw [e, exec_tlvOpaque_read t b reading]
  obtain ⟨reaches, scan'⟩ := start.next scan (by simp [dst]) (run.trans typeRead)
  exact ⟨_, reaches, scan', rfl, rfl, idx, rfl⟩

/-- A length field at the cursor, cut or read (R178, R179). -/
theorem reaches_dispatch {b : Byte} (scan : s.scanFrom t) (dst : t.ndd.dst = .readLength) (type : t.ndd.tlvT = b)
    (idx : t.ndd.idx.toNat = i) (flag : t.hif.badtxt = bad) (inside : i ≤ buf.length) :
    (lengthAt buf i = none → ReachesSome t
      (s.scanned · (notFoundAt (if b = Config.tlvTerm then .terminator else .truncated) buf.length bad))) ∧
    ∀ l j, lengthAt buf i = some (l, j) → j ≤ buf.length ∧ i < j ∧ ReachesSome t (s.atDispatch · b l j bad) := by
  have decoding := start.decoding scan
  have ce := start.ce_toNat scan
  have notDone : t.ndd.dst ≠ .done := by simp [dst]
  have window := start.window scan 3
  subst type idx flag
  have read {n : Nat} {v : Half} (fits : t.ndd.idx.toNat + n ≤ buf.length)
      (run : t.fetchDecoder.run = .next (t.readLength n v)) :
      ReachesSome t (s.atDispatch · t.ndd.tlvT v.toNat (t.ndd.idx.toNat + n) t.hif.badtxt) := by
    obtain ⟨cursor, msgend⟩ := t.readLength_toNat n v (by rwa [ce])
    obtain ⟨reaches, scan'⟩ := start.next scan notDone run
    exact ⟨_, reaches, scan', rfl, rfl, rfl, cursor, msgend, rfl⟩
  obtain ⟨why, found⟩ | ⟨b, short, under, found⟩ | ⟨h, l, under, high, low, found⟩ := lengthAt_cases buf t.ndd.idx.toNat
  · refine ⟨fun _ => ?_, fun l j some => by simp [found] at some⟩
    obtain ⟨cut, -⟩ := cutFieldsEndTheScan t decoding (start.valued scan) (by rwa [ce])
    have ends := cut dst (by
      obtain beyond | ⟨extended, cut⟩ := why
      · exact .inl (BitVec.eq_of_toNat_eq (by omega))
      · obtain ⟨below, -⟩ := List.getElem?_eq_some_iff.mp extended
        exact .inr ⟨(start.read scan below).trans extended, by rwa [ce]⟩)
    obtain ⟨reaches, scan'⟩ := start.next scan notDone (decoding.step_eq.symm.trans ends)
    exact ⟨_, reaches, scan', rfl, rfl, rfl, ce, rfl, rfl, rfl⟩
  · refine ⟨fun none => by simp [found] at none, fun l j some => ?_⟩
    obtain ⟨rfl, rfl⟩ : b.toNat = l ∧ t.ndd.idx.toNat + 1 = j := by simpa [found] using some
    obtain ⟨below, -⟩ := List.getElem?_eq_some_iff.mp under
    refine ⟨below, by omega, ?_⟩
    have widened : (b.setWidth 16).toNat = b.toNat := BitVec.toNat_setWidth_of_le (by decide)
    rw [take_drop_eq_cons 2 under] at window
    rw [← widened]
    refine read below ?_
    rw [State.fetchDecoder_readLength dst, State.fetchWindow_some window,
      Fetched.run_element t (decode_tlvLen_short _ short)]
    rfl
  · refine ⟨fun none => by simp [found] at none, fun l' j some => ?_⟩
    obtain ⟨rfl, rfl⟩ : 256 * h.toNat + l.toNat = l' ∧ t.ndd.idx.toNat + 3 = j := by simpa [found] using some
    obtain ⟨below, -⟩ := List.getElem?_eq_some_iff.mp low
    refine ⟨below, by omega, ?_⟩
    rw [take_drop_eq_cons 2 under, take_drop_eq_cons 1 high, take_drop_eq_cons 0 low] at window
    rw [← be16_toNat h l]
    refine read below ?_
    rw [State.fetchDecoder_readLength dst, State.fetchWindow_some window,
      Fetched.run_element t (decode_tlvLen_ext h l _)]
    rfl

/-- A terminator, an NDEF message or an opaque block, acted on (R180 to R182). -/
theorem reaches_acted {b : Byte} {l j : Nat} (here : s.atDispatch t b l j bad) (typed : b ≠ Config.tlvNull) :
    (b = Config.tlvTerm → ReachesSome t (s.scanned · (notFoundAt .terminator j bad))) ∧
    (b = Config.tlvNdef → ReachesSome t (s.atRecord · (j + l) j bad)) ∧
    (b ≠ Config.tlvTerm → b ≠ Config.tlvNdef → ReachesSome t (s.atType · (min (j + l) buf.length) bad)) := by
  obtain ⟨scan, dst, rfl, rfl, rfl, msgend, rfl⟩ := here
  have notDone : t.ndd.dst ≠ .done := by simp [dst]
  have run := State.run_dispatch dst
  obtain ⟨null, -⟩ | ⟨ndef, e⟩ | ⟨term, e⟩ | ⟨-, notNdef, notTerm, e⟩ := decodeTlvType_cases t.ndd.tlvT
  · exact absurd null typed
  · rw [e, exec_tlvNdef_dispatched t dst] at run
    obtain ⟨reaches, scan'⟩ := start.next scan notDone run
    exact ⟨fun term => by rw [ndef] at term; exact absurd term (by decide),
      fun _ => ⟨_, reaches, scan', rfl, rfl, msgend, rfl, rfl⟩, fun _ other => absurd ndef other⟩
  · rw [e, exec_tlvTerminator_dispatched t dst] at run
    obtain ⟨reaches, scan'⟩ := start.next scan notDone run
    exact ⟨fun _ => ⟨_, reaches, scan', rfl, rfl, rfl, rfl, rfl, rfl, rfl⟩,
      fun ndef => by rw [term] at ndef; exact absurd ndef (by decide), fun other => absurd term other⟩
  · rw [e, exec_tlvOpaque_dispatched t _ dst] at run
    obtain ⟨reaches, scan'⟩ := start.next scan notDone run
    have skipped := t.skip_le (t.ndd.idx.toNat + t.ndd.tlvL.toNat)
    rw [start.ce_toNat scan] at skipped
    exact ⟨fun term => absurd term notTerm, fun ndef => absurd ndef notNdef,
      fun _ _ => ⟨_, reaches, scan', rfl, skipped, rfl⟩⟩

/-! ## The record scan's passages (R195 to R203) -/

/-- Where no record may begin, the outer scan goes on (R195). -/
theorem reaches_messageEnd {msgend : Nat} (here : s.atRecord t msgend i bad)
    (ended : ¬(i < msgend ∧ i < buf.length)) : ReachesSome t (s.atType · i bad) := by
  obtain ⟨scan, dst, outside, rfl, rfl, rfl⟩ := here
  rw [← start.ce_toNat scan] at ended
  have run : t.fetchDecoder.run = .next { t with ndd.dst := .readType } := by
    rw [State.fetchDecoder_messageEnd dst outside (by omega)]
    rfl
  obtain ⟨reaches, scan'⟩ := start.next scan (by simp [dst]) run
  exact ⟨_, reaches, scan', rfl, rfl, rfl⟩

/-- A record's fixed part, cut or read (R196). -/
theorem reaches_body {msgend : Nat} (here : s.atRecord t msgend i bad) (inMessage : i < msgend)
    (inside : i < buf.length) :
    (headerAt buf i = none → ReachesSome t (s.scanned · (notFoundAt .truncated buf.length bad))) ∧
    ∀ h, headerAt buf i = some h → h.body ≤ buf.length ∧ i < h.body ∧ ReachesSome t (s.atBody · h msgend bad) := by
  obtain ⟨scan, dst, outside, rfl, rfl, rfl⟩ := here
  have decoding := start.decoding scan
  have ce := start.ce_toNat scan
  have notDone : t.ndd.dst ≠ .done := by simp [dst]
  obtain ⟨hdr, under⟩ := exists_byte inside
  by_cases fits : t.ndd.idx.toNat + fixedPartSize hdr ≤ buf.length
  · obtain ⟨ins, tl, p, il, decoded, runs, found⟩ := headerAt_fits under fits
    refine ⟨fun none => by simp [found] at none, fun h some => ?_⟩
    obtain rfl := Option.some.inj (found.symm.trans some)
    have least : 3 ≤ fixedPartSize hdr := by unfold fixedPartSize; split_ifs <;> omega
    refine ⟨fits, (show t.ndd.idx.toNat < t.ndd.idx.toNat + fixedPartSize hdr by omega), ?_⟩
    have run : t.fetchDecoder.run = .next (t.readHeader (fixedPartSize hdr) hdr tl p il) := by
      rw [State.fetchDecoder_header dst outside inMessage (by rwa [ce]), State.fetchWindow_some (start.window scan 7),
        Fetched.run_element t decoded, runs]
    have cursor : (BitVec.ofNat 16 (t.ndd.idx.toNat + fixedPartSize hdr)).toNat =
        t.ndd.idx.toNat + fixedPartSize hdr := ofNat_toNat_of_le (ce := t.ndd.ce) (by rwa [ce])
    obtain ⟨reaches, scan'⟩ := start.next scan notDone run
    exact ⟨_, reaches, scan', ⟨rfl, rfl, rfl, rfl⟩, rfl, rfl, rfl, rfl, cursor, cursor⟩
  · refine ⟨fun _ => ?_, fun h some => by simp [headerAt_cut under (by omega)] at some⟩
    obtain ⟨-, cut, -⟩ := cutFieldsEndTheScan t decoding (start.valued scan) (by rw [ce]; omega)
    have ends := cut hdr dst outside inMessage (by rwa [ce]) ((start.read scan inside).trans under) (by rw [ce]; omega)
    obtain ⟨reaches, scan'⟩ := start.next scan notDone (decoding.step_eq.symm.trans ends)
    exact ⟨_, reaches, scan', rfl, rfl, rfl, ce, rfl, rfl, rfl⟩

end

/-! ### A record classified (R197 to R203) -/

/-- What a classified record leads to: the scan's end, or the scan behind the record. -/
def State.behindRecord (s : State) (buf : List Byte) (h : Header) (msgend : Nat) : RecordEnd → State → Prop
  | .ends r, u => s.scanned u r
  | .passed bad, u =>
    if hdrME h.hdr then s.atType u (min (h.body + h.typelen + h.ridlen + h.paylen) buf.length) bad
    else s.atRecord u msgend (min (h.body + h.typelen + h.ridlen + h.paylen) buf.length) bad

section
variable {buf : List Byte} {h : Header} {bad : Bool}

theorem recordAt_other (other : ¬(hdrTNF h.hdr = Config.tnfWellKnown ∧ h.typelen = 1)) :
    recordAt buf h bad = .passed bad := if_neg other

section
variable (wellKnown : hdrTNF h.hdr = Config.tnfWellKnown ∧ h.typelen = 1)
include wellKnown

theorem recordAt_cut (cut : buf[h.body]? = none) :
    recordAt buf h bad = .ends (notFoundAt .truncated buf.length bad) := by
  rw [recordAt, if_pos wellKnown, cut]

theorem recordAt_notText {b : Byte} (under : buf[h.body]? = some b) (other : b ≠ Config.textType) :
    recordAt buf h bad = .passed bad := by
  rw [recordAt, if_pos wellKnown, under]
  exact if_pos other

variable (type : buf[h.body]? = some Config.textType)
include type

theorem recordAt_text_noPayload (empty : h.paylen = 0) : recordAt buf h bad = .passed true := by
  rw [recordAt, if_pos wellKnown, type]
  exact (if_neg (by simp)).trans (if_pos empty)

theorem recordAt_text_cut (payload : h.paylen ≠ 0) (cut : buf[h.body + 1 + h.ridlen]? = none) :
    recordAt buf h bad = .ends (notFoundAt .truncated buf.length bad) := by
  rw [recordAt, if_pos wellKnown, type]
  refine (if_neg (by simp)).trans ((if_neg payload).trans ?_)
  rw [cut]

theorem recordAt_text_language {g : Byte} (payload : h.paylen ≠ 0) (under : buf[h.body + 1 + h.ridlen]? = some g) :
    recordAt buf h bad =
      if h.paylen < 1 + g.toNat then .passed true
      else if buf.length < h.body + 1 + h.ridlen + 1 + g.toNat + (h.paylen - 1 - g.toNat) then
        .ends (notFoundAt .truncated buf.length bad)
      else .ends ⟨.found, .none, h.body + 1 + h.ridlen + 1 + g.toNat + (h.paylen - 1 - g.toNat),
        h.body + 1 + h.ridlen + 1 + g.toNat, h.paylen - 1 - g.toNat, bad⟩ := by
  rw [recordAt, if_pos wellKnown, type]
  refine (if_neg (by simp)).trans ((if_neg payload).trans ?_)
  rw [under]

end

/-- The type byte is looked at for a well-known record with a one-byte type alone (R197). -/
theorem decode_recClass_other {hdr tl : Byte} (rest : List Byte)
    (other : ¬(hdrTNF hdr = Config.tnfWellKnown ∧ tl = 1)) : decode .recClass (hdr :: tl :: rest) = .ok .recOther := by
  by_cases tnf : hdrTNF hdr = Config.tnfWellKnown
  · have long : tl ≠ 1 := fun one => other ⟨tnf, one⟩
    exact (if_neg (not_not.mpr tnf)).trans (if_pos long)
  · exact if_pos tnf

theorem decode_recClass_wellKnown {hdr tl b : Byte} {rest : List Byte} (tnf : hdrTNF hdr = Config.tnfWellKnown)
    (one : tl = 1) : decode .recClass (hdr :: tl :: b :: rest) =
      .ok (if b = Config.textType then .recText else .recOther) := by
  refine (if_neg (not_not.mpr tnf)).trans ((if_neg (not_not.mpr one)).trans ?_)
  exact (apply_ite Decoded.ok _ _ _).symm

end

section
variable {s t u : State} {buf : List Byte} {h : Header} {msgend : Nat} {bad : Bool} (start : s.quietWith buf)
  (here : s.atBody t h msgend bad)
include start here

/-- A record's class, run: its byte is the first of the window there. -/
theorem run_class {i : Instr}
    (decoded : decode .recClass (t.ndd.hdr :: t.ndd.typelen :: (buf.drop h.body).take 1) = .ok i) :
    t.fetchDecoder.run = exec i t := by
  obtain ⟨scan, ⟨dst, inBody, -⟩, -, -, -, -, idx, -⟩ := here
  have window := start.window scan 1
  rw [idx] at window
  rw [State.fetchDecoder_body dst inBody, State.fetchClass_some window, Fetched.run_element t decoded]

/-- A record passed over by its declared lengths (R200, R201). -/
theorem reaches_passed {bad' : Bool} (run : t.fetchDecoder.run = .next u) (outside : u.ndd.inBody = false)
    (dst' : u.ndd.dst = if hdrME t.ndd.hdr then .readType else .record) (msgend' : u.ndd.msgend = t.ndd.msgend)
    (idx : u.ndd.idx.toNat =
      min (t.ndd.body.toNat + t.ndd.typelen.toNat + t.ndd.ridlen.toNat + t.ndd.paylen.toNat) t.ndd.ce.toNat)
    (flag : u.hif.badtxt = bad') : ReachesSome t (s.behindRecord buf h msgend (.passed bad')) := by
  obtain ⟨scan, ⟨dst, -, message, -⟩, hdr, typelen, paylen, ridlen, -, body⟩ := here
  obtain ⟨reaches, scan'⟩ := start.next scan (by simp [dst]) run
  rw [start.ce_toNat scan, body, typelen, ridlen, paylen] at idx
  rw [hdr] at dst'
  refine ⟨u, reaches, ?_⟩
  simp only [State.behindRecord]
  split
  case isTrue me => exact ⟨scan', by rw [dst', if_pos me], idx, flag⟩
  case isFalse goesOn => exact ⟨scan', by rw [dst', if_neg goesOn], outside, by rw [msgend', message], idx, flag⟩

/-- A record that is no Text record. -/
theorem reaches_otherPassed
    (decoded : decode .recClass (t.ndd.hdr :: t.ndd.typelen :: (buf.drop h.body).take 1) = .ok .recOther) :
    ReachesSome t (s.behindRecord buf h msgend (.passed bad)) := by
  obtain ⟨-, ⟨-, -, -, flag⟩, -⟩ := id here
  exact reaches_passed start here (run_class start here decoded) rfl rfl rfl t.passRecord_idx_toNat flag

/-- The scan ends without a text at the end of the buffer. -/
theorem reaches_truncated (run : t.fetchDecoder.run = .next u) (dst' : u.ndd.dst = .done) (res : u.hif.res = .notFound)
    (cause : u.hif.cause = .truncated) (idx : u.ndd.idx = t.ndd.ce) (off : u.ndd.txtOff = 0) (len : u.ndd.txtLen = 0)
    (flag : u.hif.badtxt = t.hif.badtxt) :
    ReachesSome t (s.behindRecord buf h msgend (.ends (notFoundAt .truncated buf.length bad))) := by
  obtain ⟨scan, ⟨dst, -, -, badtxt⟩, -⟩ := here
  obtain ⟨reaches, scan'⟩ := start.next scan (by simp [dst]) run
  exact ⟨u, reaches, scan', dst', res, cause, by rw [idx]; exact start.ce_toNat scan, by rw [off]; rfl,
    by rw [len]; rfl, flag.trans badtxt⟩

/-- A Text record rejected (R199). -/
theorem reaches_rejected (inside : h.body < buf.length) (run : t.fetchDecoder.run = exec .recText t)
    (why : t.ndd.paylen = 0 ∨ ∃ g : Byte, t.ndd.idx.toNat + 1 + t.ndd.ridlen.toNat + 1 ≤ t.ndd.ce.toNat ∧
      Memory.read t.tb.cells (t.ndd.idx.toNat + 1 + t.ndd.ridlen.toNat) = some g ∧
      t.ndd.paylen.toNat < 1 + g.toNat) : ReachesSome t (s.behindRecord buf h msgend (.passed true)) := by
  obtain ⟨scan, -, -, -, -, -, idx, -⟩ := id here
  obtain ⟨u, text, frame, idx'⟩ := textRejected t (by rwa [idx, start.ce_toNat scan]) why
  exact reaches_passed start here (run.trans text) (by rw [frame]) (by rw [frame]) (by rw [frame]) idx' (by rw [frame])

/-- A Text record cut by the end of the buffer (R203). -/
theorem reaches_textCut (inside : h.body < buf.length) (run : t.fetchDecoder.run = exec .recText t)
    (payload : t.ndd.paylen ≠ 0)
    (why : t.ndd.ce.toNat < t.ndd.idx.toNat + 1 + t.ndd.ridlen.toNat + 1 ∨
      ∃ g : Byte, t.ndd.idx.toNat + 1 + t.ndd.ridlen.toNat + 1 ≤ t.ndd.ce.toNat ∧
        Memory.read t.tb.cells (t.ndd.idx.toNat + 1 + t.ndd.ridlen.toNat) = some g ∧
        1 + g.toNat ≤ t.ndd.paylen.toNat ∧
        t.ndd.ce.toNat < t.ndd.idx.toNat + 1 + t.ndd.ridlen.toNat + t.ndd.paylen.toNat) :
    ReachesSome t (s.behindRecord buf h msgend (.ends (notFoundAt .truncated buf.length bad))) := by
  obtain ⟨scan, -, -, -, -, -, idx, -⟩ := id here
  obtain ⟨u, text, frame⟩ := textTruncated t (by rwa [idx, start.ce_toNat scan]) payload why
  exact reaches_truncated start here (run.trans text) (by rw [frame]) (by rw [frame]) (by rw [frame]) (by rw [frame])
    (by rw [frame]) (by rw [frame]) (by rw [frame])

/-- A Text record (R198, R199, R203). -/
theorem reaches_text (wellKnown : hdrTNF h.hdr = Config.tnfWellKnown ∧ h.typelen = 1)
    (type : buf[h.body]? = some Config.textType) (run : t.fetchDecoder.run = exec .recText t) :
    ReachesSome t (s.behindRecord buf h msgend (recordAt buf h bad)) := by
  obtain ⟨inside, -⟩ := List.getElem?_eq_some_iff.mp type
  obtain ⟨scan, ⟨dst, -, -, flag⟩, -, -, paylen, ridlen, idx, -⟩ := id here
  have ce := start.ce_toNat scan
  by_cases empty : h.paylen = 0
  · rw [recordAt_text_noPayload wellKnown type empty]
    exact reaches_rejected start here inside run (.inl (BitVec.eq_of_toNat_eq (paylen.trans empty)))
  have payload : t.ndd.paylen ≠ 0 := fun none => empty (by rw [← paylen, none]; rfl)
  by_cases language : h.body + 1 + h.ridlen < buf.length
  · obtain ⟨g, under⟩ := exists_byte language
    have fits : t.ndd.idx.toNat + 1 + t.ndd.ridlen.toNat + 1 ≤ t.ndd.ce.toNat := by rw [idx, ridlen, ce]; exact language
    have valued : Memory.read t.tb.cells (t.ndd.idx.toNat + 1 + t.ndd.ridlen.toNat) = some g := by
      rw [idx, ridlen, start.read scan language, under]
    rw [recordAt_text_language wellKnown type empty under]
    split_ifs with overrun cut
    · exact reaches_rejected start here inside run (.inr ⟨g, fits, valued, by rwa [paylen]⟩)
    · exact reaches_textCut start here inside run payload
        (.inr ⟨g, fits, valued, by rw [paylen]; omega, by rw [idx, ridlen, paylen, ce]; omega⟩)
    · obtain ⟨u, text, frame, off, len, behind⟩ := textFound t g fits valued (by rw [paylen]; omega)
        (by rw [idx, ridlen, paylen, ce]; omega)
      obtain ⟨reaches, scan'⟩ := start.next scan (by simp [dst]) (run.trans text)
      rw [idx, ridlen] at off
      rw [paylen] at len
      exact ⟨u, reaches, scan', by rw [frame], by rw [frame], by rw [frame], by rw [behind, off, len], off, len,
        by rw [frame]; exact flag⟩
  · rw [recordAt_text_cut wellKnown type empty (List.getElem?_eq_none (by omega))]
    exact reaches_textCut start here inside run payload (.inl (by rw [idx, ridlen, ce]; omega))

/-- A classified record leads where the pseudocode says. -/
theorem reaches_behindRecord (inside : h.body ≤ buf.length) :
    ReachesSome t (s.behindRecord buf h msgend (recordAt buf h bad)) := by
  obtain ⟨scan, ⟨dst, inBody, -, flag⟩, hdr, typelen, -, -, idx, -⟩ := id here
  by_cases wellKnown : hdrTNF h.hdr = Config.tnfWellKnown ∧ h.typelen = 1
  · obtain ⟨tnf, oneByte⟩ := id wellKnown
    have one : t.ndd.typelen = 1 := BitVec.eq_of_toNat_eq (typelen.trans oneByte)
    rw [← hdr] at tnf
    by_cases atEnd : h.body = buf.length
    · rw [recordAt_cut wellKnown (List.getElem?_eq_none (by omega))]
      have ce := start.ce_toNat scan
      have decoding := start.decoding scan
      obtain ⟨-, -, cut⟩ := cutFieldsEndTheScan t decoding (start.valued scan) (by rwa [idx, ce])
      have ends := cut dst inBody (BitVec.eq_of_toNat_eq (by rw [idx, ce, atEnd])) tnf one
      exact reaches_truncated start here (decoding.step_eq.symm.trans ends) rfl rfl rfl rfl rfl rfl rfl
    · obtain ⟨b, under⟩ := exists_byte (show h.body < buf.length by omega)
      have class' (i : Instr) (read : (if b = Config.textType then Instr.recText else .recOther) = i) :
          decode .recClass (t.ndd.hdr :: t.ndd.typelen :: (buf.drop h.body).take 1) = .ok i := by
        rw [take_drop_eq_cons 0 under, decode_recClass_wellKnown tnf one, read]
      by_cases text : b = Config.textType
      · subst text
        exact reaches_text start here wellKnown under (run_class start here (class' _ (if_pos rfl)))
      · rw [recordAt_notText wellKnown under text]
        exact reaches_otherPassed start here (class' _ (if_neg text))
  · rw [recordAt_other wellKnown]
    refine reaches_otherPassed start here (decode_recClass_other _ fun ⟨tnf, one⟩ => wellKnown ?_)
    exact ⟨by rw [← hdr, tnf], by rw [← typelen, one]; rfl⟩

end

/-! ## The two scans (R175, R185, R195) -/

/-- What the record scan entered at `i` leads to: the scan's end, or the outer scan no further back. -/
def State.behindMessage (s : State) (buf : List Byte) (i : Nat) : ScanResult ⊕ (Nat × Bool) → State → Prop
  | .inl r, u => s.scanned u r
  | .inr (k, bad), u => (i ≤ k ∧ k ≤ buf.length) ∧ s.atType u k bad

theorem State.behindMessage.le {s u : State} {buf : List Byte} {i j : Nat} {r : ScanResult ⊕ (Nat × Bool)}
    (behind : s.behindMessage buf j r u) (le : i ≤ j) : s.behindMessage buf i r u := by
  obtain r | ⟨k, bad⟩ := r
  · exact behind
  · obtain ⟨⟨least, most⟩, there⟩ := behind
    exact ⟨⟨le.trans least, most⟩, there⟩

section
variable {s : State} {buf : List Byte} (start : s.quietWith buf)
include start

/-- The record scan, with a pass for each byte to come. -/
theorem recordScan_reaches {msgend : Nat} (n : Nat) {t : State} {i : Nat} {bad : Bool}
    (here : s.atRecord t msgend i bad) (inside : i ≤ buf.length) (fuel : buf.length < n + i) :
    ReachesSome t (s.behindMessage buf i (recordScanOf buf msgend n i bad)) := by
  induction n generalizing t i bad with
  | zero => omega
  | succ n ih =>
    rw [recordScanOf]
    by_cases begins : i < msgend ∧ i < buf.length
    · obtain ⟨cut, whole⟩ := reaches_body start here begins.1 begins.2
      rw [if_pos begins]
      cases header : headerAt buf i with
      | none => exact cut header
      | some h =>
        obtain ⟨fits, consumed, body⟩ := whole h header
        refine body.bind fun u atBody => (reaches_behindRecord start atBody fits).bind fun v behind => ?_
        dsimp only
        cases outcome : recordAt buf h bad with
        | ends r =>
          rw [outcome] at behind
          exact .here behind
        | passed bad' =>
          rw [outcome, State.behindRecord] at behind
          dsimp only
          split
          case isTrue me =>
            rw [if_pos me] at behind
            exact .here ⟨⟨by omega, by omega⟩, behind⟩
          case isFalse goesOn =>
            rw [if_neg goesOn] at behind
            obtain ⟨w, reaches, there⟩ := ih behind (by omega) (by omega)
            exact ⟨w, reaches, there.le (by omega)⟩
    · rw [if_neg begins]
      obtain ⟨u, reaches, atType⟩ := reaches_messageEnd start here begins
      exact ⟨u, reaches, ⟨le_refl i, inside⟩, atType⟩

/-- The outer scan, with a pass for each byte to come. -/
theorem outerScan_reaches (n : Nat) {t : State} {i : Nat} {bad : Bool} (here : s.atType t i bad)
    (inside : i ≤ buf.length) (fuel : buf.length < n + i) :
    ReachesSome t (s.scanned · (outerScanOf buf n i bad)) := by
  induction n generalizing t i bad with
  | zero => omega
  | succ n ih =>
    rw [outerScanOf]
    cases under : buf[i]? with
    | none => exact reaches_endOfBuffer start here under
    | some b =>
      obtain ⟨below, -⟩ := List.getElem?_eq_some_iff.mp under
      dsimp only
      by_cases null : b = Config.tlvNull
      · rw [if_pos null]
        exact (reaches_behindNull start here (null ▸ under)).bind fun u next => ih next below (by omega)
      rw [if_neg null]
      refine (reaches_length start here under null).bind fun u ⟨scan, dst, type, idx, flag⟩ => ?_
      obtain ⟨cut, whole⟩ := reaches_dispatch start scan dst type idx flag below
      cases length : lengthAt buf (i + 1) with
      | none => exact cut length
      | some field =>
        obtain ⟨l, j⟩ := field
        obtain ⟨fits, consumed, dispatch⟩ := whole l j length
        refine dispatch.bind fun v atDispatch => ?_
        obtain ⟨terminator, message, value⟩ := reaches_acted start atDispatch null
        dsimp only
        split_ifs with isTerm isNdef
        · exact terminator isTerm
        · refine (message isNdef).bind fun w atRecord =>
            (recordScan_reaches start (buf.length + 1) atRecord fits (by omega)).bind fun x behind => ?_
          cases outcome : recordScanOf buf (j + l) (buf.length + 1) j bad with
          | inl r =>
            rw [outcome] at behind
            exact .here behind
          | inr place =>
            obtain ⟨k, bad'⟩ := place
            rw [outcome] at behind
            obtain ⟨⟨least, most⟩, atType⟩ := behind
            exact ih atType most (by omega)
        · exact (value isTerm isNdef).bind fun w atType => ih atType (Nat.min_le_right _ _) (by omega)

end

/-- Settles O32: accepted, `DEC` is at the first type; the scans run as the pseudocode does, and complete. -/
theorem decodeOperation : Obligations.DecodeOperation := by
  unfold Obligations.DecodeOperation
  intro s buf quiet bytes
  have start : s.quietWith buf := ⟨quiet, bytes⟩
  obtain ⟨free, tst, -, stuck, released, script⟩ := quiet
  refine ⟨_, exec_dec_free free, rfl, rfl, ?_⟩
  have accepted : s.scanFrom { s.accept 0x30 with
      ndd.ce := s.tb.len, ndd.idx := 0, ndd.txtOff := 0, ndd.txtLen := 0, hif.badtxt := false, ndd.dst := .readType,
      ndd.inBody := false } := ⟨rfl, ⟨rfl, rfl, rfl, rfl⟩, ⟨rfl, rfl, rfl, rfl⟩, rfl⟩
  obtain ⟨u, reaches, scan, done, res, cause, idx, off, len, bad⟩ :=
    outerScan_reaches start (buf.length + 1) ⟨accepted, rfl, rfl, rfl⟩ (Nat.zero_le _) (by omega)
  obtain ⟨-, -, completes⟩ := scanLoopTests u (start.decoding scan)
  obtain ⟨-, ⟨tb, tpd, env, par⟩, ⟨op, arg, ovr, tba⟩, ce⟩ := scan
  refine ⟨_, reaches.trans (.of_step (completes done)), ?_⟩
  exact ⟨⟨rfl, by rw [← tst, ← tpd], rfl, by rw [← stuck, ← tpd], by rw [← released, ← env], by rw [← script, ← env]⟩,
    rfl, op, res, cause, bad, ce, idx, off, len, tb, tpd, env, par, arg, tba, ovr⟩

end Sys2Proof.Machine
end
